-- ==== Sys2Proof/Word.lean ====
section
/-!
DEFINITION. The widths the spec uses for unsigned quantities (spec/00_scope.md R11).
-/

namespace Sys2Proof

/-- `u8`: a frame byte or an 8-bit register field. -/
abbrev Byte := BitVec 8

/-- `u16`: a checksum, a Modbus register word, a 16-bit register field. -/
abbrev Half := BitVec 16

/-- `u32`: a bus word or a command word. -/
abbrev Word := BitVec 32

end Sys2Proof
end

