-- ==== Sys2Proof/Syntax.lean ====
section
/-!
DEFINITION. The block's command set: one constructor per row of spec/opcode_table.json (spec/30_encoding.md R72).
Only CRC_BYTE and RX_PUSH have an operand, the byte DATA of the command word (R73); the other five ignore DATA (R74).
-/

namespace Sys2Proof

/-- A command the host issues by writing its word to CMD (R70, R72). -/
inductive Instr where
  /-- NOP, opcode 0x00 (43_control.md R182). -/
  | nop
  /-- CRC_INIT, opcode 0x01 (40_crc.md R103). -/
  | crcInit
  /-- CRC_BYTE b, opcode 0x02 (40_crc.md R104). -/
  | crcByte (b : Byte)
  /-- REQ_BUILD, opcode 0x03 (41_request.md R122). -/
  | reqBuild
  /-- RX_CLEAR, opcode 0x04 (42_response.md R150). -/
  | rxClear
  /-- RX_PUSH b, opcode 0x05 (42_response.md R151). -/
  | rxPush (b : Byte)
  /-- PARSE, opcode 0x06 (42_response.md R152). -/
  | parse
  deriving DecidableEq, Repr

end Sys2Proof
end

