-- ==== Sys2Proof/WellFormed.lean ====
section
/-!
DEFINITION. Which command words and which commands are well formed. The checks on a word are the spec's own two reasons for
a word to be illegal (spec/30_encoding.md R71, R75), written on the number and apart from the decoder, so that a
statement can hold the decoder against them.
-/

namespace Sys2Proof

/-- RSVD, bits [31:16], is zero (R71). -/
def WellFormed.rsvdZero (v : Word) : Bool := v.toNat / 2 ^ 16 == 0

/-- OPCODE, bits [7:0], is one of the seven assigned values 0x00 to 0x06 (R72, R75). -/
def WellFormed.opcodeAssigned (v : Word) : Bool := v.toNat % 2 ^ 8 < 7

/-- A legal command word: both checks hold (R71, R75). -/
def WellFormed.word (v : Word) : Bool := WellFormed.rsvdZero v && WellFormed.opcodeAssigned v

/-- A command as syntax. Every operand is a byte and the spec gives no illegal byte (R73, R85), so every term is well
formed: the type leaves nothing to refuse. -/
def Instr.wellFormed : Instr → Bool
  | .nop => true
  | .crcInit => true
  | .crcByte _ => true
  | .reqBuild => true
  | .rxClear => true
  | .rxPush _ => true
  | .parse => true

end Sys2Proof
end

