-- ==== Sys2Proof/Decode.lean ====
section
/-!
DEFINITION. The command word (spec/30_encoding.md R70 to R75): its fields, the decoder, the encoder (R76) and the opcode
map of R72 as a list of rows. The decoder is total: every 32-bit word is one of the seven commands or illegal, and an
illegal word is rejected with the reason (R75).
-/

namespace Sys2Proof

/-- OPCODE, bits [7:0] (R70). -/
def Cmd.opcode (v : Word) : Byte := v.extractLsb' 0 8

/-- DATA, bits [15:8] (R70). -/
def Cmd.data (v : Word) : Byte := v.extractLsb' 8 8

/-- RSVD, bits [31:16] (R70). -/
def Cmd.rsvd (v : Word) : Half := v.extractLsb' 16 16

/-- Why a word is no command. -/
inductive IllegalWord where
  /-- RSVD is not 0x0000, whatever the OPCODE (R71). -/
  | rsvdNonzero (rsvd : Half)
  /-- OPCODE is one of the reserved values 0x07 to 0xFF (R72, R75). -/
  | reservedOpcode (opcode : Byte)
  deriving DecidableEq, Repr

/-- What a word decodes to: exactly one command, or illegal (R75). -/
inductive Decoded where
  | command (i : Instr)
  | illegal (why : IllegalWord)
  deriving DecidableEq, Repr

/-- The command an OPCODE selects, with DATA as its operand where it has one (R72, R73); none for 0x07 to 0xFF. -/
def commandOf (opcode data : Byte) : Option Instr :=
  match opcode.toNat with
  | 0x00 => some .nop
  | 0x01 => some .crcInit
  | 0x02 => some (.crcByte data)
  | 0x03 => some .reqBuild
  | 0x04 => some .rxClear
  | 0x05 => some (.rxPush data)
  | 0x06 => some .parse
  | _ => none

/-- The decoder, in the order of `execute_command` (43_control.md R180): RSVD first, then OPCODE. -/
def decode (v : Word) : Decoded :=
  if Cmd.rsvd v ≠ 0 then .illegal (.rsvdNonzero (Cmd.rsvd v))
  else match commandOf (Cmd.opcode v) (Cmd.data v) with
    | some i => .command i
    | none => .illegal (.reservedOpcode (Cmd.opcode v))

/-- `zext_32(DATA) << 8 OR OPCODE`, with RSVD = 0 (R76). -/
def cmdWord (opcode data : Byte) : Word := (data.setWidth 32 <<< 8) ||| opcode.setWidth 32

/-- The word of a command (R72, R76): DATA is the operand, and 0 for a command without one (log 13). -/
def encode : Instr → Word
  | .nop => cmdWord 0x00 0
  | .crcInit => cmdWord 0x01 0
  | .crcByte b => cmdWord 0x02 b
  | .reqBuild => cmdWord 0x03 0
  | .rxClear => cmdWord 0x04 0
  | .rxPush b => cmdWord 0x05 b
  | .parse => cmdWord 0x06 0

/-- One row of R72's opcode map. -/
structure OpcodeRow where
  mnemonic : String
  pattern : Word
  mask : Word
  build : Byte → Instr

/-- The word matches the row: equal to the pattern wherever the mask has a 1 (R72). -/
def OpcodeRow.fits (r : OpcodeRow) (v : Word) : Bool := v &&& r.mask == r.pattern

/-- The opcode map of R72, row by row. -/
def opcodeMap : List OpcodeRow := [
  ⟨"NOP", 0x00000000, 0xFFFF00FF, fun _ => .nop⟩,
  ⟨"CRC_INIT", 0x00000001, 0xFFFF00FF, fun _ => .crcInit⟩,
  ⟨"CRC_BYTE", 0x00000002, 0xFFFF00FF, .crcByte⟩,
  ⟨"REQ_BUILD", 0x00000003, 0xFFFF00FF, fun _ => .reqBuild⟩,
  ⟨"RX_CLEAR", 0x00000004, 0xFFFF00FF, fun _ => .rxClear⟩,
  ⟨"RX_PUSH", 0x00000005, 0xFFFF00FF, .rxPush⟩,
  ⟨"PARSE", 0x00000006, 0xFFFF00FF, fun _ => .parse⟩]

/-- The word an instruction table's row gives as a number of `nbits` bits: a command word is one 32-bit number and has no
byte order (20_memory.md R58, log 10). Nothing above 32 bits is a command word. -/
def tableWord (nbits w : Nat) : Option Word :=
  let n := w % 2 ^ nbits
  if n < 2 ^ 32 then some (BitVec.ofNat 32 n) else none

/-- The command the decoder reads from a table row's word; none where it refuses. -/
def decodeTableWord (nbits w : Nat) : Option Instr :=
  match tableWord nbits w with
  | none => none
  | some v =>
    match decode v with
    | .command i => some i
    | .illegal _ => none

end Sys2Proof
end

