-- ==== Sys2Proof/Config.lean ====
section
/-!
DEFINITION. What an implementation or the platform fixes: the parameters of spec/00_scope.md R10 that give sizes, and the
one open parameter, BASE_ADDR (R10, R50; decision D2), which is opaque: nothing in Lean can evaluate it.
-/

namespace Sys2Proof

/-- BASE_ADDR, where the platform places the window in the host's address map: OPEN (R10, log 6). -/
opaque Config.baseAddr : Nat

/-- BUS_W in bytes: the only access size the block accepts (R10, R54). -/
abbrev Config.busBytes : Nat := 4

/-- RX_CAP, the number of bytes RX_BUF stores (R10). -/
abbrev Config.rxCap : Nat := 260

/-- MAX_REGS, the number of RSP_REG registers (R10). -/
abbrev Config.maxRegs : Nat := 127

/-- WINDOW, the number of byte offsets of the register window (R10; 20_memory.md R50; decision D2). -/
abbrev Config.window : Nat := 0x200

/-- A byte offset in the window. The block never sees an access elsewhere (R55), so no other is an offset. -/
abbrev Offset := Fin Config.window

end Sys2Proof
end

