-- ==== Sys2Proof/Machine/State.lean ====
section
/-!
DEFINITION. The state of the block (spec/10_state.md R20 to R40) as plain data, the reasons a step could stop, and the state
after reset (spec/70_reset_and_hazards.md R230). Two fields are the model's own: the events that have not yet reached the
port, and the block's latest bus answer (log 1, log 3).
-/

namespace Sys2Proof.Machine

/-- REQ_STATUS.REQ_RESULT (10_state.md R28); code 3 is never produced, so it has no constructor (I14). -/
inductive ReqResult where
  /-- 0 NONE: no REQ_BUILD since reset. -/
  | none
  /-- 1 OK: REQ_FRAME0/1 hold a valid frame. -/
  | ok
  /-- 2 RANGE_ERR: the last REQ_BUILD had COUNT = 0. -/
  | rangeErr
  deriving DecidableEq, Repr

/-- RSP_STATUS.RESULT (10_state.md R32); code 7 is never produced, so it has no constructor (I14). -/
inductive RspResult where
  | none
  | ok
  | tooShort
  | deviceException
  | lengthMismatch
  | checksumMismatch
  | malformedData
  deriving DecidableEq, Repr

/-- One access of the bus port: the size is in bytes and may be wrong, the offset may be misaligned (20_memory.md R52 to
R54). A write carries 32 bits of data; an access of another width is refused before its data matter (log 7). -/
inductive BusAccess where
  | read (off : Offset) (size : Nat)
  | write (off : Offset) (size : Nat) (v : Word)
  deriving DecidableEq, Repr

/-- What can happen at the block's pins: an access of the bus, or the platform's reset, which discards the access that is
running when there is one (70_reset_and_hazards.md R230, R232). -/
inductive HostEvent where
  | access (a : BusAccess)
  | reset (running : Option BusAccess)
  deriving DecidableEq, Repr

/-- The block's answer to an access: read data, completion of a write, or the bus error response (R52 to R54). -/
inductive BusResponse where
  | data (v : Word)
  | written
  | busError (off : Offset)
  deriving DecidableEq, Repr

/-- The error results of the access functions. -/
inductive Fault where
  /-- `raise BusError(off)` (20_memory.md R54): raised by `busRead` and `busWrite` on a wrong width or a misaligned offset,
  with no change of state. Safe: `performAccess` turns it into the bus error response and the machine goes on (R206, R208),
  so neither `exec` nor `step` ever answers it. -/
  | busError (off : Offset)
  deriving DecidableEq, Repr

/-- Reasons to give an instruction no meaning. -/
inductive Refusal where
  /-- An instruction without a meaning, by its mnemonic: raised by no arm of `exec`, since every command has its meaning.
  Safe. -/
  | notModelled (mnemonic : String)
  deriving DecidableEq, Repr

/-- The block's registers as their fields (reserved bits read 0 and are not stored, R36, log 5), the hidden receive buffer,
and the model's two port fields. -/
structure State where
  /-- CTRL.EXC_CRC_CHK, bit 0 of CTRL (R22). -/
  excCrcChk : Bool
  /-- CMD_STATUS.ILLEGAL (R24). -/
  illegal : Bool
  /-- CRC.VALUE (R25). -/
  crc : Half
  /-- REQ_HDR.SLAVE (R26). -/
  slave : Byte
  /-- REQ_HDR.FUNC (R26). -/
  func : Byte
  /-- REQ_ARGS.START (R27). -/
  start : Half
  /-- REQ_ARGS.COUNT (R27). -/
  count : Half
  /-- REQ_STATUS.REQ_RESULT (R28). -/
  reqResult : ReqResult
  /-- REQ_FRAME0 (R29). -/
  reqFrame0 : Word
  /-- REQ_FRAME1 (R29). -/
  reqFrame1 : Word
  /-- RX_LEN.LEN (R30). -/
  rxLen : Half
  /-- RX_BUF, hidden (R31). -/
  rxBuf : Vector Byte Config.rxCap
  /-- RSP_STATUS.RESULT (R32). -/
  rspResult : RspResult
  /-- RSP_INFO.ADDR (R33). -/
  rspAddr : Byte
  /-- RSP_INFO.FUNC (R33). -/
  rspFunc : Byte
  /-- RSP_INFO.NREGS (R33). -/
  rspNregs : Byte
  /-- RSP_ERR_A.VALUE (R34). -/
  rspErrA : Half
  /-- RSP_ERR_B.VALUE (R34). -/
  rspErrB : Half
  /-- RSP_REG[i].VALUE, i = 0..126 (R35). -/
  rspReg : Vector Half Config.maxRegs
  /-- The model's own: events still to reach the port, oldest first (R61, log 1). -/
  pending : List HostEvent
  /-- The model's own: the answer to the latest access, none before the first one after reset (log 3). -/
  response : Option BusResponse
  deriving DecidableEq, Repr

/-- The block right after reset: R230's table. RX_BUF is unspecified there and zero here (R231, DESIGN CHOICE, log 4); no
event waits and no access has been answered (log 1, log 3). -/
def State.reset : State where
  excCrcChk := false
  illegal := false
  crc := 0xFFFF
  slave := 0
  func := 0
  start := 0
  count := 0
  reqResult := .none
  reqFrame0 := 0
  reqFrame1 := 0
  rxLen := 0
  rxBuf := Vector.replicate Config.rxCap 0
  rspResult := .none
  rspAddr := 0
  rspFunc := 0
  rspNregs := 0
  rspErrA := 0
  rspErrB := 0
  rspReg := Vector.replicate Config.maxRegs 0
  pending := []
  response := .none

end Sys2Proof.Machine
end

