-- ==== Sys2Proof/Machine/Flags.lean ====
section
/-!
DEFINITION. The status fields, the only state that reports an outcome (spec/10_state.md R38): CMD_STATUS.ILLEGAL (R24) and
the numeric codes of REQ_RESULT (R28) and RESULT (R32; spec/60_exceptions.md R200).
-/

namespace Sys2Proof.Machine

/-- CMD_STATUS.ILLEGAL <- 0, written by every command (R24). -/
def State.markLegal (s : State) : State := { s with illegal := false }

/-- CMD_STATUS.ILLEGAL <- 1, written by an illegal command word (R24, R181). -/
def State.markIllegal (s : State) : State := { s with illegal := true }

/-- The codes of REQ_STATUS.REQ_RESULT (R28). -/
def ReqResult.code : ReqResult → BitVec 2
  | .none => 0
  | .ok => 1
  | .rangeErr => 2

/-- The codes of RSP_STATUS.RESULT (R32, R200). -/
def RspResult.code : RspResult → BitVec 3
  | .none => 0
  | .ok => 1
  | .tooShort => 2
  | .deviceException => 3
  | .lengthMismatch => 4
  | .checksumMismatch => 5
  | .malformedData => 6

end Sys2Proof.Machine
end

