-- ==== Sys2Proof/Machine/Operands.lean ====
section
/-!
DEFINITION. Operand forms, byte order and packing: the zero-extended byte operand (spec/30_encoding.md R73), the two byte
orders of a frame (spec/20_memory.md R59), the packing of frame bytes into bus words (spec/10_state.md R29) and a span
of a frame (spec/00_scope.md R11).
-/

namespace Sys2Proof.Machine

/-- `zext_16(b)`, the operand form of CRC_BYTE (R73). -/
def zext16 (b : Byte) : Half := b.setWidth 16

/-- `w[15:8]`. -/
def hiByte (w : Half) : Byte := w.extractLsb' 8 8

/-- `w[7:0]`. -/
def loByte (w : Half) : Byte := w.extractLsb' 0 8

/-- A big-endian field: the byte at the lower index is the high one (R59). -/
def beWord (first second : Byte) : Half := (zext16 first <<< 8) ||| zext16 second

/-- The little-endian CRC: the byte at the lower index is the low one (R59). -/
def leWord (first second : Byte) : Half := zext16 first ||| (zext16 second <<< 8)

/-- Four frame bytes in one bus word, the byte of lowest index in bits 7:0 (R29). -/
def packWord (b0 b1 b2 b3 : Byte) : Word :=
  (b3.setWidth 32 <<< 24) ||| (b2.setWidth 32 <<< 16) ||| (b1.setWidth 32 <<< 8) ||| b0.setWidth 32

/-- `bytes[a .. b]`: the bytes at indices a to b - 1, the end index exclusive (R11). -/
def span (bytes : Nat → Byte) (a b : Nat) : List Byte := (List.range' a (b - a)).map bytes

end Sys2Proof.Machine
end

