-- ==== Sys2Proof/Machine/Ops.lean ====
section
/-!
DEFINITION. The named operations over the block's registers and buffer: the field writes of bus accesses
(spec/20_memory.md R53), the CRC accumulator, the request result (spec/41_request.md R122), the receive buffer
(spec/42_response.md R151), the cleared parse result (R153) and the port. The block takes no exception and returns from
none (spec/60_exceptions.md R206, R207): its one shared error operation is the illegal word's, `illegalCommand`
(spec/43_control.md R181), which stands here once.
-/

namespace Sys2Proof.Machine

/-- CTRL.EXC_CRC_CHK <- v[0]; the reserved bits of v are dropped (R53, R36). -/
def State.writeCtrl (v : Word) (s : State) : State := { s with excCrcChk := v.getLsbD 0 }

/-- REQ_HDR.SLAVE <- v[7:0]; REQ_HDR.FUNC <- v[15:8] (R53). -/
def State.writeReqHdr (v : Word) (s : State) : State :=
  { s with slave := v.extractLsb' 0 8, func := v.extractLsb' 8 8 }

/-- REQ_ARGS.START <- v[15:0]; REQ_ARGS.COUNT <- v[31:16] (R53). -/
def State.writeReqArgs (v : Word) (s : State) : State :=
  { s with start := v.extractLsb' 0 16, count := v.extractLsb' 16 16 }

/-- CRC.VALUE <- c (R25). -/
def State.setCrc (c : Half) (s : State) : State := { s with crc := c }

/-- REQ_RESULT, REQ_FRAME0 and REQ_FRAME1 together, as only REQ_BUILD writes them (R28, R29). -/
def State.setRequest (r : ReqResult) (f0 f1 : Word) (s : State) : State :=
  { s with reqResult := r, reqFrame0 := f0, reqFrame1 := f1 }

/-- RX_LEN.LEN <- n (R30). -/
def State.setRxLen (n : Half) (s : State) : State := { s with rxLen := n }

/-- RX_BUF[k] <- b when k is below RX_CAP; a later byte is not stored (R151). -/
def State.storeRx (k : Nat) (b : Byte) (s : State) : State := { s with rxBuf := s.rxBuf.setIfInBounds k b }

/-- RX_BUF[i]. The spec reads no index at or above RX_CAP (R156); the total reader gives 0 there (log 12). -/
def State.rxByte (s : State) (i : Nat) : Byte := s.rxBuf[i]?.getD 0

/-- One more, saturating at 0xFFFF (R30, R151). -/
def satSucc (k : Half) : Half := if k.toNat < 0xFFFF then k + 1 else k

/-- `clear_result()`: RSP_STATUS, RSP_INFO, RSP_ERR_A, RSP_ERR_B and every RSP_REG become 0 (R153). -/
def State.clearResult (s : State) : State :=
  { s with
    rspResult := .none, rspAddr := 0, rspFunc := 0, rspNregs := 0, rspErrA := 0, rspErrB := 0
    rspReg := Vector.replicate Config.maxRegs 0 }

/-- RSP_STATUS.RESULT with the two payload registers (R34). -/
def State.setError (r : RspResult) (a b : Half) (s : State) : State :=
  { s with rspResult := r, rspErrA := a, rspErrB := b }

/-- RSP_REG[j].VALUE <- regs[j] for j below the length of regs; the others keep their value (R152). -/
def storeRegs (regs : List Half) (old : Vector Half Config.maxRegs) : Vector Half Config.maxRegs :=
  Vector.ofFn fun j => regs.getD j.val old[j]

/-- The registers of a decoded response (R33, R35, R152). -/
def State.setDecoded (addr fc : Byte) (regs : List Half) (s : State) : State :=
  { s with
    rspResult := .ok, rspAddr := addr, rspFunc := fc, rspNregs := BitVec.ofNat 8 regs.length
    rspReg := storeRegs regs s.rspReg }

/-- `illegal_command()`: CMD_STATUS.ILLEGAL <- 1 and no other state changes (R181). -/
def illegalCommand (s : State) : Host.Outcome State Fault Refusal := .next s.markIllegal

/-- The block's answer on the bus; the model's own record of it (log 3). -/
def State.respond (r : BusResponse) (s : State) : State := { s with response := some r }

/-- The events still to come (log 1). -/
def State.setPending (es : List HostEvent) (s : State) : State := { s with pending := es }

end Sys2Proof.Machine
end

