-- ==== Sys2Proof/Machine/Control.lean ====
section
/-!
DEFINITION. NOP (spec/43_control.md R182). The illegal word's effect (R181) is the shared operation `illegalCommand`.
-/

namespace Sys2Proof.Machine

/-- NOP: CMD_STATUS.ILLEGAL <- 0 is its only effect (R182). -/
def execNop (s : State) : Host.Outcome State Fault Refusal := .next s.markLegal

end Sys2Proof.Machine
end

