-- ==== Sys2Proof/Machine/Crc.lean ====
section
/-!
DEFINITION. The CRC unit (spec/40_crc.md): the pure functions lfsr_step, crc_byte and crc16 (R100 to R102) and the commands
CRC_INIT and CRC_BYTE (R103, R104).
-/

namespace Sys2Proof.Machine

/-- POLY (00_scope.md R10). -/
def poly : Half := 0xA001

/-- CRC_SEED (00_scope.md R10). -/
def crcSeed : Half := 0xFFFF

/-- One shift of the right-shifting LFSR (R100). -/
def lfsrStep (c : Half) : Half := if c &&& 0x0001 ≠ 0 then (c >>> 1) ^^^ poly else c >>> 1

/-- Fold one byte into the accumulator: XOR, then eight shifts (R101). -/
def crcByte (c : Half) (b : Byte) : Half := Nat.iterate lfsrStep 8 (c ^^^ zext16 b)

/-- CRC-16/Modbus of a byte sequence of any length, from the seed, in order, with no final XOR (R102). -/
def crc16 (bytes : List Byte) : Half := bytes.foldl crcByte crcSeed

/-- CRC_INIT: CRC.VALUE <- 0xFFFF (R103). -/
def execCrcInit (s : State) : Host.Outcome State Fault Refusal := .next (s.setCrc crcSeed).markLegal

/-- CRC_BYTE: CRC.VALUE <- crc_byte(CRC.VALUE, b) (R104). -/
def execCrcByte (b : Byte) (s : State) : Host.Outcome State Fault Refusal :=
  .next (s.setCrc (crcByte s.crc b)).markLegal

end Sys2Proof.Machine
end

