-- ==== Sys2Proof/Machine/Request.lean ====
section
/-!
DEFINITION. The request framer (spec/41_request.md): the pure function build_request (R120, R121), whose layout is
spec/30_encoding.md R80, and the command REQ_BUILD (R122).
-/

namespace Sys2Proof.Machine

/-- `RangeError | bytes[8]` (R120). -/
inductive BuildResult where
  | rangeError
  | frame (bytes : List Byte)
  deriving DecidableEq, Repr

/-- The 6-byte body: big-endian fields (R80, R120). -/
def requestBody (s f : Byte) (st n : Half) : List Byte := [s, f, hiByte st, loByte st, hiByte n, loByte n]

/-- `build_request(s, f, st, n)`: a count of 0 is out of range (R121); otherwise the body and its CRC, low byte first (R120).
Every other value of every field is framed. -/
def buildRequest (s f : Byte) (st n : Half) : BuildResult :=
  if n = 0 then .rangeError
  else
    let body := requestBody s f st n
    let c := crc16 body
    .frame (body ++ [loByte c, hiByte c])

/-- Bytes 4w to 4w + 3 of a frame as REQ_FRAMEw (R29, R122). -/
def frameWord (r : List Byte) (w : Nat) : Word :=
  packWord (r.getD (4 * w) 0) (r.getD (4 * w + 1) 0) (r.getD (4 * w + 2) 0) (r.getD (4 * w + 3) 0)

/-- The request registers after a build (R122): zeroed frame registers and RANGE_ERR, or the frame and OK. -/
def State.recordBuild (r : BuildResult) (s : State) : State :=
  match r with
  | .rangeError => s.setRequest .rangeErr 0 0
  | .frame bytes => s.setRequest .ok (frameWord bytes 0) (frameWord bytes 1)

/-- REQ_BUILD: build from REQ_HDR and REQ_ARGS as they stand (R122). -/
def execReqBuild (s : State) : Host.Outcome State Fault Refusal :=
  .next (s.recordBuild (buildRequest s.slave s.func s.start s.count)).markLegal

end Sys2Proof.Machine
end

