-- ==== Sys2Proof/Machine/Response.lean ====
section
/-!
DEFINITION. The response parser (spec/42_response.md): the pure five-stage pipeline parse_response (R140 to R149) and the
commands RX_CLEAR, RX_PUSH and PARSE (R150 to R153).
-/

namespace Sys2Proof.Machine

/-- The result type of the pipeline (00_scope.md R13). Lengths are natural numbers, as R140 and R145 say. -/
inductive ParseResult where
  | ok (address functionCode : Byte) (registers : List Half)
  | tooShort
  | deviceException (functionCode exceptionCode : Byte)
  | lengthMismatch (expected actual : Nat)
  | checksumMismatch (received computed : Half)
  | malformedData
  deriving DecidableEq, Repr

/-- MIN_FRAME, the length floor of stage 1 (00_scope.md R10, R142). -/
def minFrame : Nat := 5

/-- Stage 5 (R148, R149): an odd byte count is malformed; otherwise bc/2 big-endian words in order. -/
def decodeStage (B : Nat → Byte) : ParseResult :=
  if (B 2) &&& 1 ≠ 0 then .malformedData
  else .ok (B 0) (B 1) ((List.range ((B 2).toNat / 2)).map fun j => beWord (B (3 + 2 * j)) (B (4 + 2 * j)))

/-- Stages 3 to 5, for a frame whose function code has bit 7 clear: length consistency (R145), then the checksum of all but
the last two bytes against those two read little-endian (R146, R147), then the register decode. -/
def normalStages (n : Nat) (B : Nat → Byte) : ParseResult :=
  let expected := 5 + (B 2).toNat
  if n ≠ expected then .lengthMismatch expected n
  else
    let received := leWord (B (n - 2)) (B (n - 1))
    let computed := crc16 (span B 0 (n - 2))
    if received ≠ computed then .checksumMismatch received computed
    else decodeStage B

/-- Stage 2 for a frame whose function code has bit 7 set: with `x` the strict checks of R144 come first, length 5 and then
the CRC of bytes 0 to 2; without it neither is checked (R143). -/
def exceptionStage (n : Nat) (B : Nat → Byte) (x : Bool) : ParseResult :=
  let received := leWord (B 3) (B 4)
  let computed := crc16 (span B 0 3)
  if x ∧ n ≠ 5 then .lengthMismatch 5 n
  else if x ∧ received ≠ computed then .checksumMismatch received computed
  else .deviceException (B 1 &&& 0x7F) (B 2)

/-- `parse_response(n, B, x)`: the stages in order, the first that fails giving the result (R140, R141). -/
def parseResponse (n : Nat) (B : Nat → Byte) (x : Bool) : ParseResult :=
  if n < minFrame then .tooShort
  else if B 1 &&& 0x80 ≠ 0 then exceptionStage n B x
  else normalStages n B

/-- PARSE's record of an outcome in the result registers (R152; codes and payloads: 10_state.md R32 to R35). -/
def State.recordResult (r : ParseResult) (s : State) : State :=
  match r with
  | .ok a f regs => s.setDecoded a f regs
  | .tooShort => s.setError .tooShort s.rspErrA s.rspErrB
  | .deviceException fc ec => s.setError .deviceException (zext16 fc) (zext16 ec)
  | .lengthMismatch e a => s.setError .lengthMismatch (BitVec.ofNat 16 e) (BitVec.ofNat 16 a)
  | .checksumMismatch rc cc => s.setError .checksumMismatch rc cc
  | .malformedData => s.setError .malformedData s.rspErrA s.rspErrB

/-- RX_CLEAR: empty the buffer and discard the result; the bytes of RX_BUF are not erased (R150). -/
def execRxClear (s : State) : Host.Outcome State Fault Refusal := .next (s.setRxLen 0).clearResult.markLegal

/-- RX_PUSH: store the byte while there is room, count it (saturating), discard the result (R151). -/
def execRxPush (b : Byte) (s : State) : Host.Outcome State Fault Refusal :=
  .next ((s.storeRx s.rxLen.toNat b).setRxLen (satSucc s.rxLen)).clearResult.markLegal

/-- PARSE: run the pipeline on RX_LEN, RX_BUF and CTRL.EXC_CRC_CHK, clear the old result, record the new one (R152). -/
def execParse (s : State) : Host.Outcome State Fault Refusal :=
  .next (s.clearResult.recordResult (parseResponse s.rxLen.toNat s.rxByte s.excCrcChk)).markLegal

end Sys2Proof.Machine
end

