-- ==== Sys2Proof/Machine/Dispatch.lean ====
section
/-!
DEFINITION. One arm per command (spec/43_control.md R180, after decoding).
-/

namespace Sys2Proof.Machine

def exec (i : Instr) (s : State) : Host.Outcome State Fault Refusal :=
  match i with
  | .nop => Sys2Proof.Machine.execNop s
  | .crcInit => Sys2Proof.Machine.execCrcInit s
  | .crcByte b => Sys2Proof.Machine.execCrcByte b s
  | .reqBuild => Sys2Proof.Machine.execReqBuild s
  | .rxClear => Sys2Proof.Machine.execRxClear s
  | .rxPush b => Sys2Proof.Machine.execRxPush b s
  | .parse => Sys2Proof.Machine.execParse s

end Sys2Proof.Machine
end

