-- ==== Sys2Proof/Machine/Regs.lean ====
section
/-!
DEFINITION. The register map (spec/10_state.md R20): the registers by name, their offsets and access rights, the register at
an offset, and each register's 32-bit value with its fields in place and its reserved bits 0 (R22 to R36).
-/

namespace Sys2Proof.Machine

/-- The registers of the window (R20). -/
inductive Reg where
  | ctrl | cmd | cmdStatus | crc | reqHdr | reqArgs | reqStatus | reqFrame0 | reqFrame1
  | rxLen | rspStatus | rspInfo | rspErrA | rspErrB
  | rspReg (i : Fin Config.maxRegs)
  deriving DecidableEq, Repr

/-- Access rights (R20): RW, RO (writes ignored) and WO (reads 0). -/
inductive Access where
  | rw | ro | wo
  deriving DecidableEq, Repr

/-- The access column of R20. -/
def Reg.access : Reg → Access
  | .ctrl | .reqHdr | .reqArgs => .rw
  | .cmd => .wo
  | .cmdStatus | .crc | .reqStatus | .reqFrame0 | .reqFrame1 | .rxLen | .rspStatus | .rspInfo | .rspErrA | .rspErrB => .ro
  | .rspReg _ => .ro

/-- The offset column of R20. The window ends at 0x1FF (20_memory.md R50), so no access reaches RSP_REG[64] to RSP_REG[126],
whose column lies beyond it (R55, log 15). -/
def Reg.offset : Reg → Nat
  | .ctrl => 0x000
  | .cmd => 0x004
  | .cmdStatus => 0x008
  | .crc => 0x00C
  | .reqHdr => 0x010
  | .reqArgs => 0x014
  | .reqStatus => 0x018
  | .reqFrame0 => 0x01C
  | .reqFrame1 => 0x020
  | .rxLen => 0x024
  | .rspStatus => 0x028
  | .rspInfo => 0x02C
  | .rspErrA => 0x030
  | .rspErrB => 0x034
  | .rspReg i => 0x100 + 4 * i.val

/-- The register at an aligned offset of R20's map; none where R20 says unmapped: 0x038 to 0x0FC, and 0x1FC, where its own
row for RSP_REG[63] disagrees with its last row, R55 and D2 (log 15). -/
def Reg.at? (off : Nat) : Option Reg :=
  match off with
  | 0x000 => some .ctrl
  | 0x004 => some .cmd
  | 0x008 => some .cmdStatus
  | 0x00C => some .crc
  | 0x010 => some .reqHdr
  | 0x014 => some .reqArgs
  | 0x018 => some .reqStatus
  | 0x01C => some .reqFrame0
  | 0x020 => some .reqFrame1
  | 0x024 => some .rxLen
  | 0x028 => some .rspStatus
  | 0x02C => some .rspInfo
  | 0x030 => some .rspErrA
  | 0x034 => some .rspErrB
  | 0x1FC => none
  | n =>
    if h : 0x100 ≤ n ∧ n % 4 = 0 ∧ (n - 0x100) / 4 < Config.maxRegs then some (.rspReg ⟨(n - 0x100) / 4, h.2.2⟩)
    else none

/-- A register's 32-bit value as a read returns it; CMD is write-only and reads 0 (R23, R52). -/
def State.readReg (s : State) : Reg → Word
  | .ctrl => (BitVec.ofBool s.excCrcChk).setWidth 32
  | .cmd => 0
  | .cmdStatus => (BitVec.ofBool s.illegal).setWidth 32
  | .crc => s.crc.setWidth 32
  | .reqHdr => (s.func.setWidth 32 <<< 8) ||| s.slave.setWidth 32
  | .reqArgs => (s.count.setWidth 32 <<< 16) ||| s.start.setWidth 32
  | .reqStatus => s.reqResult.code.setWidth 32
  | .reqFrame0 => s.reqFrame0
  | .reqFrame1 => s.reqFrame1
  | .rxLen => s.rxLen.setWidth 32
  | .rspStatus => s.rspResult.code.setWidth 32
  | .rspInfo => (s.rspNregs.setWidth 32 <<< 16) ||| (s.rspFunc.setWidth 32 <<< 8) ||| s.rspAddr.setWidth 32
  | .rspErrA => s.rspErrA.setWidth 32
  | .rspErrB => s.rspErrB.setWidth 32
  | .rspReg i => s.rspReg[i].setWidth 32

end Sys2Proof.Machine
end

