-- ==== Sys2Proof/Machine/Bus.lean ====
section
/-!
DEFINITION. The bus port (spec/20_memory.md R50 to R57, R60): the legality of an access (R54), MemRead (R52), MemWrite (R53),
the dispatch of a command word (spec/43_control.md R180), the place of the window in the host's address map (R50), and
what the block does with one event: an access, answered whole before the next one, or a reset (spec/70_reset_and_hazards.md
R230, R232).
-/

namespace Sys2Proof.Machine

/-- `size == 4 and off[1:0] == 0` (R54). -/
def accessLegal (off : Offset) (size : Nat) : Bool := size == Config.busBytes && off.val % 4 == 0

/-- MemRead (R52): a wrong width or a misaligned offset is a bus error (R54), an unmapped offset reads 0 (R55). -/
def busRead (s : State) (off : Offset) (size : Nat) : Except Fault Word :=
  if accessLegal off size then
    match Reg.at? off.val with
    | some r => .ok (s.readReg r)
    | none => .ok 0
  else .error (.busError off)

/-- `execute_command(v)` (R180): the decoded command, or the illegal word's effect (R181). -/
def executeCommand (v : Word) (s : State) : Host.Outcome State Fault Refusal :=
  match decode v with
  | .command i => exec i s
  | .illegal _ => illegalCommand s

/-- MemWrite (R53): CTRL, CMD, REQ_HDR and REQ_ARGS take the write; read-only registers and unmapped offsets ignore it (R55,
R56); a wrong width or a misaligned offset is a bus error (R54). -/
def busWrite (s : State) (off : Offset) (size : Nat) (v : Word) : Host.Outcome State Fault Refusal :=
  if accessLegal off size then
    match Reg.at? off.val with
    | some .ctrl => .next (s.writeCtrl v)
    | some .cmd => executeCommand v s
    | some .reqHdr => .next (s.writeReqHdr v)
    | some .reqArgs => .next (s.writeReqArgs v)
    | _ => .next s
  else .fault (.busError off)

/-- A byte offset as an offset of the window, when it lies in it; elsewhere the block sees nothing (R50, R55). -/
def offsetInWindow (n : Nat) : Option Offset := if h : n < Config.window then some ⟨n, h⟩ else none

/-- The window offset of a host address (R50). -/
def offsetOfAddress (addr : Nat) : Option Offset :=
  if Config.baseAddr ≤ addr then offsetInWindow (addr - Config.baseAddr) else none

/-- One access, from request to answer. A bus error changes no register (R54) and is an answer, not a stop (R206, R208). -/
def performAccess (a : BusAccess) (s : State) : Host.Outcome State Fault Refusal :=
  match a with
  | .read off size =>
    match busRead s off size with
    | .ok v => .next (s.respond (.data v))
    | .error (.busError o) => .next (s.respond (.busError o))
  | .write off size v =>
    match busWrite s off size v with
    | .next t => .next (t.respond .written)
    | .fault (.busError o) => .next (s.respond (.busError o))
    | .refused r => .refused r

/-- One event at the pins. A reset discards the access that was running, whatever it had done, and leaves the reset state;
the events after it are still to come (R230, R232, log 9). -/
def performEvent (e : HostEvent) (s : State) : Host.Outcome State Fault Refusal :=
  match e with
  | .access a => performAccess a s
  | .reset _ => .next (State.reset.setPending s.pending)

end Sys2Proof.Machine
end

