-- ==== Sys2Proof/Machine/Step.lean ====
section
/-!
DEFINITION. One step of the machine: the oldest event reaches the port and is served whole (spec/00_scope.md R8,
spec/20_memory.md R60, R61). With no event the block does nothing, since it takes no autonomous step (R8, log 2).
-/

namespace Sys2Proof.Machine

/-- The state with the oldest event taken off, and that event served in it. -/
def step (s : State) : Host.Outcome State Fault Refusal :=
  match s.pending with
  | [] => .next s
  | e :: rest => performEvent e (s.setPending rest)

/-- The state in which the very next step runs the command word that a table row gives as a number of `nbits` bits: the host's
write of that word to CMD is the next event (R23, log 8). A number of more than 32 bits is no command word and adds
nothing. -/
def State.withFetchWord (s : State) (nbits w : Nat) : State :=
  match tableWord nbits w with
  | some v => s.setPending (.access (.write 0x004 Config.busBytes v) :: s.pending)
  | none => s

end Sys2Proof.Machine
end

