-- ==== Sys2Proof/Machine/Assembler.lean ====
section
/-!
DEFINITION. The spec's assembler notation (spec/30_encoding.md R76) and its pseudo-instructions (R77), each as the bus
accesses it stands for. It has no architectural effect (decision D25): it is a notation for the events of `pending`.
-/

namespace Sys2Proof.Machine

/-- A line of R76, or a pseudo-instruction of R77. -/
inductive Asm where
  /-- A command mnemonic: one CMD write. -/
  | cmd (i : Instr)
  /-- WR reg, value. -/
  | wr (r : Reg) (v : Word)
  /-- RD reg. -/
  | rd (r : Reg)
  /-- CRC_BYTES b0, ..., bk-1. -/
  | crcBytes (bs : List Byte)
  /-- RX_LOAD b0, ..., bk-1. -/
  | rxLoad (bs : List Byte)
  /-- CRC_OF b0, ..., bk-1. -/
  | crcOf (bs : List Byte)
  /-- SET_REQ s, f, st, n. -/
  | setReq (s f : Byte) (st n : Half)
  deriving DecidableEq, Repr

/-- The CMD write of a command (R76). -/
def cmdWrite (i : Instr) : BusAccess := .write 0x004 Config.busBytes (encode i)

/-- The accesses a line stands for, as the block sees them (R76, R77): a register whose offset lies beyond the window gives none
(20_memory.md R55, log 15). -/
def Asm.accesses : Asm → List BusAccess
  | .cmd i => [cmdWrite i]
  | .wr r v => (offsetInWindow r.offset).toList.map fun off => .write off Config.busBytes v
  | .rd r => (offsetInWindow r.offset).toList.map fun off => .read off Config.busBytes
  | .crcBytes bs => bs.map fun b => cmdWrite (.crcByte b)
  | .rxLoad bs => cmdWrite .rxClear :: bs.map fun b => cmdWrite (.rxPush b)
  | .crcOf bs => cmdWrite .crcInit :: bs.map fun b => cmdWrite (.crcByte b)
  | .setReq s f st n =>
    [.write 0x010 Config.busBytes ((f.setWidth 32 <<< 8) ||| s.setWidth 32),
     .write 0x014 Config.busBytes ((n.setWidth 32 <<< 16) ||| st.setWidth 32)]

/-- A program as the events the port will see, in order. -/
def asmEvents (prog : List Asm) : List HostEvent := (prog.flatMap Asm.accesses).map .access

end Sys2Proof.Machine
end

