-- ==== Sys2Proof/Machine/Frames.lean ====
section
/-!
DEFINITION. The wire frames of a slave (spec/30_encoding.md R81, R82), which the block receives and does not build: written
from their layout, so that statements can feed them to the parser. The request frame (R80) is `buildRequest`.
-/

namespace Sys2Proof.Machine

/-- A frame's bytes as the parser takes them, indexed from 0 (00_scope.md R11). -/
def frameAt (f : List Byte) (i : Nat) : Byte := f.getD i 0

/-- A body followed by its CRC, low byte first (20_memory.md R59). -/
def withCrc (body : List Byte) : List Byte := body ++ [loByte (crc16 body), hiByte (crc16 body)]

/-- The data section: each register big-endian, in order (R81). -/
def registerData (regs : List Half) : List Byte := regs.flatMap fun w => [hiByte w, loByte w]

/-- A normal response (R81): address, function code, byte count, data, CRC. -/
def responseFrame (addr fc : Byte) (regs : List Half) : List Byte :=
  withCrc ([addr, fc, BitVec.ofNat 8 (2 * regs.length)] ++ registerData regs)

/-- An exception response (R82): address, function code with bit 7 set, exception code, CRC. -/
def exceptionFrame (addr fc ec : Byte) : List Byte := withCrc [addr, fc ||| 0x80, ec]

/-- A frame with bit `k` of byte `j` flipped (42_response.md R158). -/
def flipBit (f : Nat → Byte) (j k : Nat) : Nat → Byte := fun i => if i = j then f i ^^^ (1#8 <<< k) else f i

end Sys2Proof.Machine
end

