-- ==== Sys2Proof/Safety.lean ====
section
/-!
DEFINITION. The terms in which statements about the block are made: what a host can see of a state, the frames, what the
result registers hold for an outcome of the pipeline, runs of commands and of steps, and the invariants of spec/10_state.md R40.
-/

namespace Sys2Proof.Machine

/-- RSP_STATUS, RSP_INFO, RSP_ERR_A, RSP_ERR_B and RSP_REG: the registers that carry the result of PARSE (R32 to R35). -/
def Reg.isResult : Reg → Bool
  | .rspStatus | .rspInfo | .rspErrA | .rspErrB => true
  | .rspReg _ => true
  | _ => false

/-- REQ_STATUS, REQ_FRAME0 and REQ_FRAME1: the registers that carry the result of REQ_BUILD (R28, R29). -/
def Reg.isRequestResult : Reg → Bool
  | .reqStatus | .reqFrame0 | .reqFrame1 => true
  | _ => false

/-- Every register outside `may` reads as before. -/
def keepsAllBut (may : Reg → Bool) (s t : State) : Prop := ∀ r, may r = false → t.readReg r = s.readReg r

/-- Every byte of RX_BUF is as before. -/
def keepsBuffer (s t : State) : Prop := ∀ i, t.rxByte i = s.rxByte i

/-- The model's two port fields are as before. -/
def keepsPort (s t : State) : Prop := t.pending = s.pending ∧ t.response = s.response

/-- Every result register reads 0 (R153). -/
def resultCleared (t : State) : Prop := ∀ r : Reg, r.isResult = true → t.readReg r = 0

/-- The result registers, register by register: the four words, then the decoded words with 0 beyond them (R32 to R35). -/
structure ResultWords (t : State) (status info errA errB : Word) (regs : List Half) : Prop where
  status : t.readReg .rspStatus = status
  info : t.readReg .rspInfo = info
  errA : t.readReg .rspErrA = errA
  errB : t.readReg .rspErrB = errB
  regs : ∀ i : Fin Config.maxRegs, t.readReg (.rspReg i) = (regs.getD i.val 0).setWidth 32

/-- What the result registers read for an outcome of the pipeline: the tables of R32 to R35 and R200. -/
def holdsResult (r : ParseResult) (t : State) : Prop :=
  match r with
  | .ok a f regs =>
    ResultWords t 1 ((BitVec.ofNat 32 regs.length <<< 16) ||| (f.setWidth 32 <<< 8) ||| a.setWidth 32) 0 0 regs
  | .tooShort => ResultWords t 2 0 0 0 []
  | .deviceException fc ec => ResultWords t 3 0 (fc.setWidth 32) (ec.setWidth 32) []
  | .lengthMismatch expected actual => ResultWords t 4 0 (BitVec.ofNat 32 expected) (BitVec.ofNat 32 actual) []
  | .checksumMismatch received computed => ResultWords t 5 0 (received.setWidth 32) (computed.setWidth 32) []
  | .malformedData => ResultWords t 6 0 0 0 []

/-- Commands one after another, each in the state the one before left (R180). -/
def runCommands : List Instr → State → Host.Outcome State Fault Refusal
  | [], s => .next s
  | i :: is, s =>
    match exec i s with
    | .next t => runCommands is t
    | .fault r => .fault r
    | .refused r => .refused r

/-- `n` steps, each in the state the one before left. -/
def runSteps : Nat → State → Host.Outcome State Fault Refusal
  | 0, s => .next s
  | n + 1, s =>
    match step s with
    | .next t => runSteps n t
    | .fault r => .fault r
    | .refused r => .refused r

/-- The operands of the CRC_BYTE commands among some commands, in order. -/
def crcOperands : List Instr → List Byte
  | [] => []
  | .crcByte b :: is => b :: crcOperands is
  | _ :: is => crcOperands is

/-- The command that the next event issues, when it is a well-formed write of a legal word to CMD. -/
def State.nextCommand (s : State) : Option Instr :=
  match s.pending with
  | .access (.write off size v) :: _ =>
    if accessLegal off size && Reg.at? off.val == some .cmd then
      match decode v with
      | .command i => some i
      | .illegal _ => none
    else none
  | _ => none

/-- The next event is a reset. -/
def State.nextIsReset (s : State) : Bool :=
  match s.pending with
  | .reset _ :: _ => true
  | _ => false

/-- R40: (a) no decoded data unless RESULT is OK; (b) no error payload while RESULT is NONE; (c) at most 127 registers and
zeros beyond them; (d) no frame unless REQ_RESULT is OK; (e) with OK, the frame registers hold some request that
`build_request` returned. -/
structure RegisterInvariant (s : State) : Prop where
  dataOnlyWhenOk : s.readReg .rspStatus ≠ 1 → s.readReg .rspInfo = 0 ∧ ∀ i, s.readReg (.rspReg i) = 0
  payloadZeroWhenNone : s.readReg .rspStatus = 0 → s.readReg .rspErrA = 0 ∧ s.readReg .rspErrB = 0
  registersBounded : s.readReg .rspStatus = 1 →
    s.rspNregs.toNat ≤ 127 ∧ ∀ i : Fin Config.maxRegs, s.rspNregs.toNat ≤ i.val → s.readReg (.rspReg i) = 0
  frameOnlyWhenOk : s.readReg .reqStatus = 0 ∨ s.readReg .reqStatus = 2 →
    s.readReg .reqFrame0 = 0 ∧ s.readReg .reqFrame1 = 0
  frameIsBuilt : s.readReg .reqStatus = 1 → ∃ sl f st n bytes, buildRequest sl f st n = .frame bytes ∧
    s.readReg .reqFrame0 = frameWord bytes 0 ∧ s.readReg .reqFrame1 = frameWord bytes 1

/-- A result that stands is the pipeline's outcome for the bytes that stand in the buffer, under the value CTRL.EXC_CRC_CHK
had at that PARSE; with no result, every result register is 0 (R153, R207). -/
def ResultIsOfBuffer (s : State) : Prop :=
  (s.rspResult = .none ∧ resultCleared s) ∨ ∃ x, holdsResult (parseResponse s.rxLen.toNat s.rxByte x) s

/-- Two states alike but for bytes of RX_BUF at or above the length, which no rule reads (R31, R156). -/
def alikeBelowLength (s t : State) : Prop :=
  { s with rxBuf := t.rxBuf } = t ∧ ∀ i, i < min s.rxLen.toNat Config.rxCap → s.rxByte i = t.rxByte i

end Sys2Proof.Machine
end

