-- ==== Sys2Proof/Certificates/Slice0/Obligations.lean ====
section
/-!
DEFINITION. The statements for the provers. Each docstring names the rules of spec/ it formalises; where a clause rests on
the model's own choice, it names the log entry.
-/

open Sys2Proof Sys2Proof.Machine

/-! ## Encoding -/

/-- R70, R72, R76: decoding the assembled word of a command gives the command back, with its operand at every value. -/
def Obligations.DecodeEncodeRoundTrip : Prop :=
  ∀ i : Instr, i.wellFormed = true → decode (encode i) = .command i

/-- R72: the decoder reads a command from a word exactly when the word matches a row of the opcode map, and it is that row's
command; two rows that match one word are the same row. -/
def Obligations.DecodeFollowsOpcodeMap : Prop :=
  ∀ v : Word,
    (∀ i, decode v = .command i ↔ ∃ r ∈ opcodeMap, r.fits v = true ∧ r.build (v.extractLsb' 8 8) = i) ∧
    (∀ j k : Fin opcodeMap.length, opcodeMap[j].fits v = true → opcodeMap[k].fits v = true → j = k)

/-- R75: the illegal words are those with a reserved OPCODE and those with RSVD not zero; every other word is a command. -/
def Obligations.IllegalWordsAreTheReservedOnes : Prop :=
  ∀ v : Word,
    ((∃ w, decode v = .illegal w) ↔ (7 ≤ v.toNat % 2 ^ 8 ∨ v.toNat / 2 ^ 16 ≠ 0)) ∧
    ((∃ i, decode v = .command i) ↔ WellFormed.word v = true)

/-- R74: for NOP, CRC_INIT, REQ_BUILD, RX_CLEAR and PARSE any DATA value gives the same command, and no DATA value makes the
word illegal, as long as RSVD is zero. -/
def Obligations.DataFieldIgnoredWithoutOperand : Prop :=
  ∀ op ∈ ([0x00, 0x01, 0x03, 0x04, 0x06] : List Word), ∃ i, ∀ v : Word, v &&& 0xFFFF00FF = op → decode v = .command i

/-- R72, R76, R181: some words written out bit by bit from R70's format. -/
def Obligations.SampleWordsDecode : Prop :=
  decode 0b00000000000000000000000000000000 = .command .nop ∧
  decode 0b00000000000000000101010100000001 = .command .crcInit ∧
  decode 0b00000000000000000000000100000010 = .command (.crcByte 0x01) ∧
  decode 0b00000000000000000000000000000011 = .command .reqBuild ∧
  decode 0b00000000000000000000000000000100 = .command .rxClear ∧
  decode 0b00000000000000001000001100000101 = .command (.rxPush 0x83) ∧
  decode 0b00000000000000000000000000000110 = .command .parse ∧
  decode 0b00000000000000010000000000000010 = .illegal (.rsvdNonzero 1) ∧
  decode 0b00000000000000000000000000000111 = .illegal (.reservedOpcode 7)

/-! ## Reset -/

/-- R230's table of reset values: CRC holds 0x0000FFFF and every other register of R20 holds 0, and a 32-bit read at the
register's offset returns that. RSP_REG[64] to RSP_REG[126] have no offset in the window, by the model's choice between two
statements of the spec (log 15); of them only the value held is said. -/
def Obligations.ResetRegisterValues : Prop :=
  ∀ r : Reg, State.reset.readReg r = (if r = .crc then 0x0000FFFF else 0) ∧
    ∀ off : Offset, off.val = r.offset → busRead State.reset off 4 = .ok (if r = .crc then 0x0000FFFF else 0)

/-- R232: a reset, with or without a running access, gives the reset state of R230 whatever came before. -/
def Obligations.ResetWinsOverEverything : Prop :=
  ∀ s running rest, s.pending = .reset running :: rest →
    ∃ t, step s = .next t ∧ ∀ r : Reg, t.readReg r = if r = .crc then 0x0000FFFF else 0

/-- R234: straight after reset, CRC_BYTEs compute crc16 with no CRC_INIT, PARSE gives TOO_SHORT and REQ_BUILD RANGE_ERR. -/
def Obligations.UsableStraightAfterReset : Prop :=
  (∀ bs, ∃ t, runCommands (bs.map .crcByte) State.reset = .next t ∧ t.readReg .crc = (crc16 bs).setWidth 32) ∧
  (∃ t, exec .parse State.reset = .next t ∧ t.readReg .rspStatus = 2) ∧
  (∃ t, exec .reqBuild State.reset = .next t ∧ t.readReg .reqStatus = 2)

/-! ## The bus -/

/-- R54: an access of another width than 32 bits or at a misaligned offset gets a bus error and changes no register, no
buffer byte and not CMD_STATUS; the machine goes on to the next event. -/
def Obligations.BusErrorChangesNothing : Prop :=
  ∀ (s : State) (off : Offset) (size : Nat) (v : Word), size ≠ 4 ∨ off.val % 4 ≠ 0 →
    busRead s off size = .error (.busError off) ∧ busWrite s off size v = .fault (.busError off) ∧
    ∀ rest a, a = .read off size ∨ a = .write off size v → s.pending = .access a :: rest →
      ∃ t, step s = .next t ∧ t.response = some (.busError off) ∧ t.pending = rest ∧
        keepsAllBut (fun _ => false) s t ∧ keepsBuffer s t

/-- R52 with the field tables of R22 to R36, over the offsets of R50's window: what an aligned 32-bit read of each offset
returns, field by field, the reserved bits 0; R55's unmapped offsets read 0; any other access is a bus error. That 0x1FC is
unmapped, as R20's last row and R55 say, and not RSP_REG[63], is the model's choice between two statements of the spec
(log 15). -/
def Obligations.ReadReturnsRegisterFields : Prop :=
  ∀ s : State,
    busRead s 0x000 4 = .ok (if s.excCrcChk then 1 else 0) ∧
    busRead s 0x004 4 = .ok 0 ∧
    busRead s 0x008 4 = .ok (if s.illegal then 1 else 0) ∧
    busRead s 0x00C 4 = .ok (0#16 ++ s.crc) ∧
    busRead s 0x010 4 = .ok (0#16 ++ s.func ++ s.slave) ∧
    busRead s 0x014 4 = .ok (s.count ++ s.start) ∧
    busRead s 0x018 4 = .ok (0#30 ++ s.reqResult.code) ∧
    busRead s 0x01C 4 = .ok s.reqFrame0 ∧
    busRead s 0x020 4 = .ok s.reqFrame1 ∧
    busRead s 0x024 4 = .ok (0#16 ++ s.rxLen) ∧
    busRead s 0x028 4 = .ok (0#29 ++ s.rspResult.code) ∧
    busRead s 0x02C 4 = .ok (0#8 ++ s.rspNregs ++ s.rspFunc ++ s.rspAddr) ∧
    busRead s 0x030 4 = .ok (0#16 ++ s.rspErrA) ∧
    busRead s 0x034 4 = .ok (0#16 ++ s.rspErrB) ∧
    (∀ (i : Fin 127) (off : Offset), off.val = 0x100 + 4 * i.val → i.val ≠ 63 → busRead s off 4 = .ok (0#16 ++ s.rspReg[i])) ∧
    busRead s 0x1FC 4 = .ok 0 ∧
    (∀ off : Offset, off.val % 4 = 0 → 0x038 ≤ off.val → off.val ≤ 0x0FC → busRead s off 4 = .ok 0) ∧
    (∀ (off : Offset) size, size ≠ 4 ∨ off.val % 4 ≠ 0 → busRead s off size = .error (.busError off))

/-- R53: an aligned 32-bit write stores CTRL, REQ_HDR or REQ_ARGS with the reserved bits dropped, runs a command at CMD, and
has no effect at any other offset. -/
def Obligations.WriteReachesItsRegister : Prop :=
  ∀ (s : State) (v : Word),
    (∃ t, busWrite s 0x000 4 v = .next t ∧ t.excCrcChk = v.getLsbD 0 ∧ t.readReg .ctrl = v &&& 0x00000001 ∧
      keepsAllBut (· == .ctrl) s t ∧ keepsBuffer s t ∧ keepsPort s t) ∧
    (busWrite s 0x004 4 v = executeCommand v s) ∧
    (∃ t, busWrite s 0x010 4 v = .next t ∧ t.slave = v.extractLsb' 0 8 ∧ t.func = v.extractLsb' 8 8 ∧
      t.readReg .reqHdr = v &&& 0x0000FFFF ∧
      keepsAllBut (· == .reqHdr) s t ∧ keepsBuffer s t ∧ keepsPort s t) ∧
    (∃ t, busWrite s 0x014 4 v = .next t ∧ t.start = v.extractLsb' 0 16 ∧ t.count = v.extractLsb' 16 16 ∧
      t.readReg .reqArgs = v ∧ keepsAllBut (· == .reqArgs) s t ∧ keepsBuffer s t ∧ keepsPort s t) ∧
    (∀ off : Offset, off.val % 4 = 0 → off.val ∉ [0x000, 0x004, 0x010, 0x014] → busWrite s off 4 v = .next s) ∧
    (∀ (off : Offset) size, size ≠ 4 ∨ off.val % 4 ≠ 0 → busWrite s off size v = .fault (.busError off))

/-- R56: a write to a read-only register is ignored and is no error; a read of CMD returns 0. -/
def Obligations.ReadOnlyWritesIgnored : Prop :=
  ∀ (s : State) (off : Offset) (v : Word),
    off.val ∈ [0x008, 0x00C, 0x018, 0x01C, 0x020, 0x024, 0x028, 0x02C, 0x030, 0x034] ∨
      (∃ i, i ≤ 126 ∧ off.val = 0x100 + 4 * i) →
    busWrite s off 4 v = .next s ∧ busRead s 0x004 4 = .ok 0

/-- R57 (its clause on reads), R52, R61: a read, of any offset and size, is answered with what R52 returns in the state as it
stands, or with the bus error; it leaves every register, the buffer and the later events as they were; reading again at once
gives the same answer. -/
def Obligations.ReadsHaveNoSideEffect : Prop :=
  ∀ (s : State) off size rest, s.pending = .access (.read off size) :: rest →
    ∃ t, step s = .next t ∧ t.pending = rest ∧ keepsAllBut (fun _ => false) s t ∧ keepsBuffer s t ∧
      (∀ v, busRead s off size = .ok v → t.response = some (.data v)) ∧
      (∀ o, busRead s off size = .error (.busError o) → t.response = some (.busError o)) ∧
      ∀ rest', rest = .access (.read off size) :: rest' → ∃ u, step t = .next u ∧ u.response = t.response

/-- R50: a host address reaches the block exactly from BASE_ADDR to BASE_ADDR + 0x1FF, and then at the offset that is its
distance from BASE_ADDR, for any BASE_ADDR. -/
def Obligations.WindowSpansFromBaseAddress : Prop :=
  ∀ addr : Nat,
    ((offsetOfAddress addr).isSome = true ↔ Config.baseAddr ≤ addr ∧ addr ≤ Config.baseAddr + 0x1FF) ∧
    ∀ off : Offset, offsetOfAddress addr = some off ↔ addr = Config.baseAddr + off.val

/-! ## Steps -/

/-- R180, R60: when the next event (log 1) is a well-formed write to CMD of a word that decodes to a command, the step is that
command's exec in the state with the event taken off, and the write is then answered (log 3); a word that decodes to none
runs `illegal_command` in its place. -/
def Obligations.StepRunsDecodedCommand : Prop :=
  ∀ (s : State) rest v, s.pending = .access (.write 0x004 4 v) :: rest →
    (∀ i, decode v = .command i →
      ∃ t, exec i (s.setPending rest) = .next t ∧ step s = .next (t.respond .written)) ∧
    (∀ w, decode v = .illegal w →
      ∃ t, illegalCommand (s.setPending rest) = .next t ∧ step s = .next (t.respond .written))

/-- R181: a write to CMD of a word with RSVD not zero or OPCODE at least 7 sets CMD_STATUS.ILLEGAL, changes nothing else, and
completes with no bus error. -/
def Obligations.IllegalWordSetsIllegalOnly : Prop :=
  ∀ (s : State) (v : Word), v.extractLsb' 16 16 ≠ 0#16 ∨ 7 ≤ (v.extractLsb' 0 8).toNat →
    ∃ t, busWrite s 0x004 4 v = .next t ∧ t.readReg .cmdStatus = 1 ∧
      keepsAllBut (· == .cmdStatus) s t ∧ keepsBuffer s t ∧ keepsPort s t

/-- R8: the block takes no autonomous step. That a step with no event is a step that changes nothing is the model's choice
(log 2). -/
def Obligations.NoAutonomousStep : Prop :=
  ∀ s : State, s.pending = [] → step s = .next s

/-- R208: the block is never stuck: from every state a step goes on, and every command has its effect. -/
def Obligations.NeverStuck : Prop :=
  (∀ s, ∃ t, step s = .next t) ∧ ∀ i s, ∃ t, exec i s = .next t

/-- R61, R237: the events that wait are all served, one step each (the list of events is the model's, log 1). -/
def Obligations.EveryEventIsServed : Prop :=
  ∀ s, ∃ t, runSteps s.pending.length s = .next t ∧ t.pending = []

/-- R61: what the events served so far do does not depend on the events that come after them (log 1). -/
def Obligations.LaterEventsChangeNothingEarlier : Prop :=
  ∀ (s t : State) es fs, runSteps es.length (s.setPending es) = .next t →
    runSteps es.length (s.setPending (es ++ fs)) = .next (t.setPending (t.pending ++ fs))

/-! ## The CRC unit -/

/-- R100: lfsr_step, by its two cases and bit by bit. -/
def Obligations.LfsrStepBitByBit : Prop :=
  ∀ c : Half,
    (c.getLsbD 0 = true → lfsrStep c = (c >>> 1) ^^^ 0xA001) ∧ (c.getLsbD 0 = false → lfsrStep c = c >>> 1) ∧
    (lfsrStep c).getLsbD 15 = c.getLsbD 0 ∧
    (lfsrStep c).getLsbD 13 = (c.getLsbD 14 ^^ c.getLsbD 0) ∧
    (lfsrStep c).getLsbD 0 = (c.getLsbD 1 ^^ c.getLsbD 0) ∧
    ∀ i, 1 ≤ i → i ≤ 14 → i ≠ 13 → (lfsrStep c).getLsbD i = c.getLsbD (i + 1)

/-- R102: crc16 starts from the seed 0xFFFF and folds the bytes in order; the corrected known vector is 0xCDC5. -/
def Obligations.Crc16FoldsBytesInOrder : Prop :=
  crc16 [] = 0xFFFF ∧ (∀ bs b, crc16 (bs ++ [b]) = lfsrStep^[8] (crc16 bs ^^^ b.setWidth 16)) ∧
  crc16 [0x01, 0x03, 0x00, 0x00, 0x00, 0x0A] = 0xCDC5

/-- R103: CRC_INIT sets CRC.VALUE to 0xFFFF and clears ILLEGAL; nothing else changes. -/
def Obligations.CrcInitSetsSeed : Prop :=
  (∀ v : Word, v &&& 0xFFFF00FF = 0x00000001 → decode v = .command .crcInit) ∧
  ∀ s, ∃ t, exec .crcInit s = .next t ∧ t.readReg .crc = 0x0000FFFF ∧ t.readReg .cmdStatus = 0 ∧
    keepsAllBut (· ∈ [.crc, .cmdStatus]) s t ∧ keepsBuffer s t ∧ keepsPort s t

/-- R104: CRC_BYTE folds its operand into CRC.VALUE and clears ILLEGAL; nothing else changes. -/
def Obligations.CrcByteFoldsOperand : Prop :=
  (∀ v : Word, v &&& 0xFFFF00FF = 0x00000002 → decode v = .command (.crcByte (v.extractLsb' 8 8))) ∧
  ∀ s b, ∃ t, exec (.crcByte b) s = .next t ∧
    t.readReg .crc = (lfsrStep^[8] (s.crc ^^^ b.setWidth 16)).setWidth 32 ∧ t.readReg .cmdStatus = 0 ∧
    keepsAllBut (· ∈ [.crc, .cmdStatus]) s t ∧ keepsBuffer s t ∧ keepsPort s t

/-- R105: after CRC_INIT and any commands with no further CRC_INIT among them, CRC.VALUE is the crc16 of the CRC_BYTE
operands in order, whatever other commands are interleaved. -/
def Obligations.CrcRegisterComputesCrc16 : Prop :=
  ∀ (is : List Instr) (s : State), Instr.crcInit ∉ is →
    ∃ t, runCommands (.crcInit :: is) s = .next t ∧ t.readReg .crc = (crc16 (crcOperands is)).setWidth 32

/-- R77: the pseudo-instruction CRC_OF, as the accesses it expands to, leaves CRC.VALUE = crc16 of its bytes. -/
def Obligations.CrcOfComputesCrc16 : Prop :=
  ∀ (bs : List Byte) (s : State), s.pending = asmEvents [.crcOf bs] →
    ∃ t, runSteps s.pending.length s = .next t ∧ t.readReg .crc = (crc16 bs).setWidth 32

/-- R107: a sequence followed by its own CRC, low byte first, has CRC 0. -/
def Obligations.CrcResidueIsZero : Prop :=
  ∀ d : List Byte, crc16 (d ++ [(crc16 d).extractLsb' 0 8, (crc16 d).extractLsb' 8 8]) = 0

/-- From R100 to R102: two sequences that differ in one byte, by any change of that byte, have different CRCs. -/
def Obligations.CrcDetectsOneChangedByte : Prop :=
  ∀ (xs ys : List Byte) (b c : Byte), b ≠ c → crc16 (xs ++ b :: ys) ≠ crc16 (xs ++ c :: ys)

/-! ## The request framer -/

/-- R122 with R120 and R80, COUNT not 0: the frame registers hold the body's six bytes and its CRC, REQ_RESULT is OK,
ILLEGAL is cleared; nothing else changes. -/
def Obligations.ReqBuildFramesRequest : Prop :=
  (∀ v : Word, v &&& 0xFFFF00FF = 0x00000003 → decode v = .command .reqBuild) ∧
  ∀ s, s.count ≠ 0 → ∃ t c, exec .reqBuild s = .next t ∧
    c = crc16 [s.slave, s.func, s.start.extractLsb' 8 8, s.start.extractLsb' 0 8,
      s.count.extractLsb' 8 8, s.count.extractLsb' 0 8] ∧
    t.readReg .reqFrame0 = s.start.extractLsb' 0 8 ++ s.start.extractLsb' 8 8 ++ s.func ++ s.slave ∧
    t.readReg .reqFrame1 = c ++ s.count.extractLsb' 0 8 ++ s.count.extractLsb' 8 8 ∧
    t.readReg .reqStatus = 1 ∧ t.readReg .cmdStatus = 0 ∧
    keepsAllBut (fun r => r.isRequestResult || r == .cmdStatus) s t ∧ keepsBuffer s t ∧ keepsPort s t

/-- R122 with R121, R202, COUNT 0: both frame registers are zeroed and REQ_RESULT is RANGE_ERR; nothing else changes. -/
def Obligations.ReqBuildRangeErrorFailsClosed : Prop :=
  ∀ s, s.count = 0 → ∃ t, exec .reqBuild s = .next t ∧
    t.readReg .reqFrame0 = 0 ∧ t.readReg .reqFrame1 = 0 ∧ t.readReg .reqStatus = 2 ∧ t.readReg .cmdStatus = 0 ∧
    keepsAllBut (fun r => r.isRequestResult || r == .cmdStatus) s t ∧ keepsBuffer s t ∧ keepsPort s t

/-- R120, R80: build_request gives a range error exactly for a count of 0, and otherwise exactly 8 bytes from which the four
fields read back big-endian. -/
def Obligations.RequestLayout : Prop :=
  ∀ (s f : Byte) (st n : Half),
    (buildRequest s f st n = .rangeError ↔ n = 0) ∧
    ∀ r, buildRequest s f st n = .frame r →
      r.length = 8 ∧ frameAt r 0 = s ∧ frameAt r 1 = f ∧
      beWord (frameAt r 2) (frameAt r 3) = st ∧ beWord (frameAt r 4) (frameAt r 5) = n ∧
      leWord (frameAt r 6) (frameAt r 7) = crc16 [s, f, st.extractLsb' 8 8, st.extractLsb' 0 8, n.extractLsb' 8 8, n.extractLsb' 0 8]

/-- R123: recomputing the CRC over all but the last two bytes of a built request agrees with those two, low byte first. -/
def Obligations.RequestCrcRoundTrip : Prop :=
  ∀ s f st n r, buildRequest s f st n = .frame r →
    crc16 (r.take 6) = ((frameAt r 6).setWidth 16 ||| ((frameAt r 7).setWidth 16 <<< 8))

/-- R124: a request frame given to the parser is never a well-formed response. -/
def Obligations.RequestIsNoResponse : Prop :=
  ∀ s f st n r x, buildRequest s f st n = .frame r →
    (f.toNat < 0x80 → st.toNat / 256 ≠ 3 →
      parseResponse 8 (frameAt r) x = .lengthMismatch (5 + st.toNat / 256) 8) ∧
    (f.toNat < 0x80 → st.toNat / 256 = 3 → parseResponse 8 (frameAt r) x = .malformedData) ∧
    (0x80 ≤ f.toNat → parseResponse 8 (frameAt r) false = .deviceException (f &&& 0x7F) (st.extractLsb' 8 8)) ∧
    (0x80 ≤ f.toNat → parseResponse 8 (frameAt r) true = .lengthMismatch 5 8)

/-! ## The pipeline -/

/-- R142: fewer than 5 bytes is TooShort, whatever the bytes are. -/
def Obligations.LengthFloor : Prop :=
  ∀ n B x, n < 5 → parseResponse n B x = .tooShort

/-- R143: with the strict bit clear, bit 7 of byte 1 gives DeviceException at any length of 5 or more and any CRC. -/
def Obligations.ExceptionWithoutStrictChecks : Prop :=
  ∀ n (B : Nat → Byte), 5 ≤ n → B 1 &&& 0x80 ≠ 0 →
    parseResponse n B false = .deviceException (B 1 &&& 0x7F) (B 2)

/-- R144: with the strict bit set, an exception frame is checked for length 5, then for its CRC, and then is
DeviceException; a frame with bit 7 of byte 1 clear gives the same under both values of the bit. -/
def Obligations.ExceptionWithStrictChecks : Prop :=
  ∀ n (B : Nat → Byte),
    (5 ≤ n → B 1 &&& 0x80 ≠ 0 →
      (n ≠ 5 → parseResponse n B true = .lengthMismatch 5 n) ∧
      (n = 5 → leWord (B 3) (B 4) ≠ crc16 [B 0, B 1, B 2] →
        parseResponse n B true = .checksumMismatch (leWord (B 3) (B 4)) (crc16 [B 0, B 1, B 2])) ∧
      (n = 5 → leWord (B 3) (B 4) = crc16 [B 0, B 1, B 2] →
        parseResponse n B true = .deviceException (B 1 &&& 0x7F) (B 2))) ∧
    (B 1 &&& 0x80 = 0 → parseResponse n B true = parseResponse n B false)

/-- R145: on a normal frame the length must be 5 plus byte 2, with no wrap-around. -/
def Obligations.LengthMustMatchByteCount : Prop :=
  ∀ n (B : Nat → Byte) x, 5 ≤ n → B 1 &&& 0x80 = 0 → n ≠ 5 + (B 2).toNat →
    parseResponse n B x = .lengthMismatch (5 + (B 2).toNat) n

/-- R147, R146: on a normal frame of consistent length, the last two bytes read low byte first must be the CRC of all the
others; both values are reported. -/
def Obligations.ChecksumMustMatch : Prop :=
  ∀ n (B : Nat → Byte) x, B 1 &&& 0x80 = 0 → n = 5 + (B 2).toNat →
    ((B (n - 2)).setWidth 16 ||| ((B (n - 1)).setWidth 16 <<< 8)) ≠ crc16 ((List.range (n - 2)).map B) →
    parseResponse n B x = .checksumMismatch ((B (n - 2)).setWidth 16 ||| ((B (n - 1)).setWidth 16 <<< 8))
      (crc16 ((List.range (n - 2)).map B))

/-- R148, R149: with a good CRC an odd byte count is MalformedData, and an even one gives Ok with byte_count / 2 big-endian
words in order. -/
def Obligations.RegistersDecodeInOrder : Prop :=
  ∀ n (B : Nat → Byte) x, B 1 &&& 0x80 = 0 → n = 5 + (B 2).toNat →
    leWord (B (n - 2)) (B (n - 1)) = crc16 ((List.range (n - 2)).map B) →
    ((B 2).toNat % 2 = 1 → parseResponse n B x = .malformedData) ∧
    ((B 2).toNat % 2 = 0 → ∃ regs, parseResponse n B x = .ok (B 0) (B 1) regs ∧ regs.length = (B 2).toNat / 2 ∧
      ∀ j, j < (B 2).toNat / 2 → regs[j]? = some (((B (3 + 2 * j)).setWidth 16 <<< 8) ||| (B (4 + 2 * j)).setWidth 16))

/-- R153's invariant of the source: Ok is answered only for a frame of consistent length with a matching CRC, bit 7 of byte 1
clear and an even byte count. -/
def Obligations.OkOnlyForValidFrame : Prop :=
  ∀ n B x a f regs, parseResponse n B x = .ok a f regs →
    B 1 &&& 0x80 = 0 ∧ n = 5 + (B 2).toNat ∧ n ≤ 260 ∧ (B 2).toNat % 2 = 0 ∧ regs.length ≤ 127 ∧
    leWord (B (n - 2)) (B (n - 1)) = crc16 ((List.range (n - 2)).map B)

/-- From R81 and R140: every normal response a slave can send parses back to its address, function code and registers. -/
def Obligations.ResponseFrameParsesBack : Prop :=
  ∀ addr fc regs x, fc &&& 0x80 = 0 → regs.length ≤ 127 →
    parseResponse (responseFrame addr fc regs).length (frameAt (responseFrame addr fc regs)) x = .ok addr fc regs

/-- From R82 and R140: every exception response parses to its function code and exception code under both settings. -/
def Obligations.ExceptionFrameParsesBack : Prop :=
  ∀ addr fc ec x, fc &&& 0x80 = 0 →
    parseResponse (exceptionFrame addr fc ec).length (frameAt (exceptionFrame addr fc ec)) x = .deviceException fc ec

/-- R156: the outcome depends on no byte at an index at or above min(n, 260). -/
def Obligations.ParseReadsOnlyStoredBytes : Prop :=
  ∀ n (B C : Nat → Byte) x, (∀ i, i < min n 260 → B i = C i) → parseResponse n B x = parseResponse n C x

/-- R158: a single flipped bit in an accepted frame is always detected, and by which stage. -/
def Obligations.SingleBitFlipIsDetected : Prop :=
  ∀ n B x a f regs, parseResponse n B x = .ok a f regs → ∀ j k, j < n → k < 8 →
    (j = 2 → ∃ e, e = 5 + (B 2 ^^^ (1#8 <<< k)).toNat ∧ e ≠ n ∧ parseResponse n (flipBit B j k) x = .lengthMismatch e n) ∧
    (j = 1 → k = 7 →
      (x = false → parseResponse n (flipBit B j k) x = .deviceException (B 1 &&& 0x7F) (B 2)) ∧
      (x = true → n ≠ 5 → parseResponse n (flipBit B j k) x = .lengthMismatch 5 n) ∧
      (x = true → n = 5 → ∃ rc cc, parseResponse n (flipBit B j k) x = .checksumMismatch rc cc)) ∧
    (j ≠ 2 → ¬ (j = 1 ∧ k = 7) → ∃ rc cc, parseResponse n (flipBit B j k) x = .checksumMismatch rc cc)

/-! ## The parser's commands -/

/-- R182: NOP clears ILLEGAL and changes nothing else. -/
def Obligations.NopClearsIllegalOnly : Prop :=
  (∀ v : Word, v &&& 0xFFFF00FF = 0x00000000 → decode v = .command .nop) ∧
  ∀ s, ∃ t, exec .nop s = .next t ∧ t.readReg .cmdStatus = 0 ∧ keepsAllBut (· == .cmdStatus) s t ∧
    keepsBuffer s t ∧ keepsPort s t

/-- R150: RX_CLEAR empties the buffer's count, clears the result and ILLEGAL, and erases no byte; nothing else changes. -/
def Obligations.RxClearEmptiesAndDiscards : Prop :=
  (∀ v : Word, v &&& 0xFFFF00FF = 0x00000004 → decode v = .command .rxClear) ∧
  ∀ s, ∃ t, exec .rxClear s = .next t ∧ t.readReg .rxLen = 0 ∧ resultCleared t ∧ t.readReg .cmdStatus = 0 ∧
    keepsAllBut (fun r => r.isResult || r == .rxLen || r == .cmdStatus) s t ∧ keepsBuffer s t ∧ keepsPort s t

/-- R151: RX_PUSH stores its byte at index RX_LEN while that is below 260 and at no other index, counts it up to 0xFFFF,
clears the result and ILLEGAL; nothing else changes. -/
def Obligations.RxPushAppends : Prop :=
  (∀ v : Word, v &&& 0xFFFF00FF = 0x00000005 → decode v = .command (.rxPush (v.extractLsb' 8 8))) ∧
  ∀ s b, ∃ t, exec (.rxPush b) s = .next t ∧
    (s.rxLen.toNat < 260 → t.rxByte s.rxLen.toNat = b) ∧
    (∀ i, i ≠ s.rxLen.toNat → t.rxByte i = s.rxByte i) ∧ (260 ≤ s.rxLen.toNat → keepsBuffer s t) ∧
    (s.rxLen.toNat < 0xFFFF → t.rxLen.toNat = s.rxLen.toNat + 1) ∧ (s.rxLen.toNat = 0xFFFF → t.rxLen = 0xFFFF) ∧
    resultCleared t ∧ t.readReg .cmdStatus = 0 ∧
    keepsAllBut (fun r => r.isResult || r == .rxLen || r == .cmdStatus) s t ∧ keepsPort s t

/-- R152: PARSE puts the pipeline's outcome for RX_LEN, RX_BUF and CTRL.EXC_CRC_CHK into the result registers, every register
beyond it 0, and clears ILLEGAL; nothing else changes. -/
def Obligations.ParseRecordsOutcome : Prop :=
  (∀ v : Word, v &&& 0xFFFF00FF = 0x00000006 → decode v = .command .parse) ∧
  ∀ s, ∃ t, exec .parse s = .next t ∧ holdsResult (parseResponse s.rxLen.toNat s.rxByte s.excCrcChk) t ∧
    t.readReg .cmdStatus = 0 ∧
    keepsAllBut (fun r => r.isResult || r == .cmdStatus) s t ∧ keepsBuffer s t ∧ keepsPort s t

/-- R155: PARSE does not consume the frame: a second PARSE gives the same state. -/
def Obligations.ParseIsIdempotent : Prop :=
  ∀ s t, exec .parse s = .next t → exec .parse t = .next t

/-- R154: pushing a sequence after RX_CLEAR and parsing gives the pipeline's outcome for that sequence, its length counted up
to 0xFFFF. -/
def Obligations.PushedFrameIsParsed : Prop :=
  ∀ (bs : List Byte) (s : State),
    ∃ t, runCommands (.rxClear :: bs.map .rxPush ++ [.parse]) s = .next t ∧
      t.readReg .rxLen = BitVec.ofNat 32 (min bs.length 0xFFFF) ∧
      holdsResult (parseResponse (min bs.length 0xFFFF) (frameAt bs) s.excCrcChk) t

/-- R157, R39: PARSE uses RX_LEN, RX_BUF and CTRL.EXC_CRC_CHK alone: not the request, not CRC.VALUE, no earlier result. -/
def Obligations.ParseUsesItsInputsAlone : Prop :=
  ∀ s t s' t', s.rxLen = t.rxLen → s.rxBuf = t.rxBuf → s.excCrcChk = t.excCrcChk →
    exec .parse s = .next s' → exec .parse t = .next t' →
    ∀ r : Reg, r.isResult = true → s'.readReg r = t'.readReg r

/-- R31, R231: bytes of RX_BUF at or above the length are never seen: two states alike but for them step alike, with the
same answers on the bus, to two such states. -/
def Obligations.StaleBytesAreUnobservable : Prop :=
  ∀ s t s', alikeBelowLength s t → step s = .next s' →
    ∃ t', step t = .next t' ∧ alikeBelowLength s' t' ∧ s'.response = t'.response ∧ ∀ r, s'.readReg r = t'.readReg r

/-! ## Whole-machine rules -/

/-- R25: of all steps, only CRC_INIT, CRC_BYTE and a reset change CRC.VALUE. -/
def Obligations.OnlyCrcCommandsWriteCrc : Prop :=
  ∀ s t, step s = .next t → t.readReg .crc ≠ s.readReg .crc →
    s.nextIsReset = true ∨ s.nextCommand = some .crcInit ∨ ∃ b, s.nextCommand = some (.crcByte b)

/-- R28, R29: of all steps, only REQ_BUILD and a reset change REQ_RESULT and the frame registers; writing the inputs does
not (R27). -/
def Obligations.OnlyReqBuildWritesRequestResult : Prop :=
  ∀ s t r, step s = .next t → r.isRequestResult = true → t.readReg r ≠ s.readReg r →
    s.nextIsReset = true ∨ s.nextCommand = some .reqBuild

/-- R30, R31, R32, R207: of all steps, only RX_CLEAR, RX_PUSH and a reset change the length, only RX_PUSH and a reset the
buffer, and only RX_CLEAR, RX_PUSH, PARSE and a reset the result registers. -/
def Obligations.OnlyParserCommandsWriteParserState : Prop :=
  ∀ s t, step s = .next t → s.nextIsReset = false →
    (t.readReg .rxLen ≠ s.readReg .rxLen → s.nextCommand = some .rxClear ∨ ∃ b, s.nextCommand = some (.rxPush b)) ∧
    (∀ i, t.rxByte i ≠ s.rxByte i → i = s.rxLen.toNat ∧ ∃ b, s.nextCommand = some (.rxPush b)) ∧
    (∀ r : Reg, r.isResult = true → t.readReg r ≠ s.readReg r →
      s.nextCommand = some .rxClear ∨ (∃ b, s.nextCommand = some (.rxPush b)) ∨ s.nextCommand = some .parse)

/-- R24: every command leaves ILLEGAL 0; after every well-formed write to CMD, ILLEGAL is 0 for a legal word and 1 for an illegal
one; and only such a write or a reset changes it. -/
def Obligations.IllegalReportsLatestCommandWord : Prop :=
  (∀ i s t, exec i s = .next t → t.readReg .cmdStatus = 0) ∧
  (∀ (s : State) v rest, s.pending = .access (.write 0x004 4 v) :: rest →
    ∃ t, step s = .next t ∧ t.readReg .cmdStatus = if WellFormed.word v then 0 else 1) ∧
  ∀ s t, step s = .next t → t.readReg .cmdStatus ≠ s.readReg .cmdStatus →
    s.nextIsReset = true ∨ ∃ v rest, s.pending = .access (.write 0x004 4 v) :: rest

/-! ## Invariants -/

/-- R40's invariants hold after reset. -/
def Obligations.InvariantHoldsAfterReset : Prop := RegisterInvariant State.reset ∧ ResultIsOfBuffer State.reset

/-- R40: every step keeps the invariants (a) to (e), from every state that has them. -/
def Obligations.StepKeepsInvariant : Prop :=
  ∀ s t, RegisterInvariant s → step s = .next t → RegisterInvariant t

/-- R153, R207: a result that stands always belongs to the bytes that stand in the buffer. -/
def Obligations.StepKeepsResultOfBuffer : Prop :=
  ∀ s t, ResultIsOfBuffer s → step s = .next t → ResultIsOfBuffer t

/-! ## Writes, as steps -/

/-- R53, R60, R61: when the next event (log 1) is an aligned 32-bit write, whichever register or unmapped offset it names, the
write of R53 goes on in the state with the event taken off, and the step is its next state with the write answered (log 3). -/
def Obligations.StepPerformsLegalWrite : Prop :=
  ∀ (s : State) off v rest, s.pending = .access (.write off 4 v) :: rest → off.val % 4 = 0 →
    ∃ t, busWrite (s.setPending rest) off 4 v = .next t ∧ step s = .next (t.respond .written)
end

