-- ==== Sys2Proof/Laws/Decode.lean ====
section
/-!
SUPPORT. The fields of a command word: what a match against an opcode-table row says of them, what the assembled word's fields
are, and the two ways decoding can end.
-/

namespace Sys2Proof

@[simp] theorem opcode_cmdWord (o d : Byte) : Cmd.opcode (cmdWord o d) = o := by
  ext i hi
  have h : i < 32 := by omega
  simp [Cmd.opcode, cmdWord, hi, h, BitVec.getLsbD_eq_getElem]

@[simp] theorem data_cmdWord (o d : Byte) : Cmd.data (cmdWord o d) = d := by
  ext i hi
  have h : 8 + i < 32 := by omega
  simp [Cmd.data, cmdWord, hi, h, BitVec.getLsbD_eq_getElem]

@[simp] theorem rsvd_cmdWord (o d : Byte) : Cmd.rsvd (cmdWord o d) = 0 := by
  ext i hi
  simp only [Cmd.rsvd, cmdWord, BitVec.getElem_extractLsb', BitVec.getLsbD_or, BitVec.getLsbD_shiftLeft,
    BitVec.getLsbD_setWidth, BitVec.getLsbD_of_ge d (16 + i - 8) (by omega), BitVec.getLsbD_of_ge o (16 + i) (by omega)]
  simp

theorem opcode_toNat (v : Word) : (Cmd.opcode v).toNat = v.toNat % 2 ^ 8 := by simp [Cmd.opcode]

theorem rsvd_eq_zero (v : Word) : Cmd.rsvd v = 0 ↔ v.toNat / 2 ^ 16 = 0 := by
  rw [← BitVec.toNat_inj]
  simp [Cmd.rsvd, BitVec.extractLsb'_toNat, Nat.shiftRight_eq_div_pow]
  omega

/-- The bits of R72's mask. -/
theorem mask_bit (i : Nat) :
    (0xFFFF00FF : Word).getLsbD i = (decide (i < 8) || (decide (16 ≤ i) && decide (i < 32))) := by
  by_cases h : i < 32
  · interval_cases i <;> rfl
  · rw [BitVec.getLsbD_of_ge _ i (by omega : 32 ≤ i)]
    have : ¬ i < 8 := by omega
    simp [h, this]

/-- A word matches a row of R72's map exactly when RSVD is 0 and OPCODE is the row's. -/
theorem fields_of_match (v : Word) (op : Byte) :
    v &&& 0xFFFF00FF = op.setWidth 32 ↔ Cmd.rsvd v = 0 ∧ Cmd.opcode v = op := by
  constructor
  · intro h
    have bit : ∀ i, (v.getLsbD i && (decide (i < 8) || (decide (16 ≤ i) && decide (i < 32)))) =
        (decide (i < 32) && op.getLsbD i) := by
      intro i
      rw [← mask_bit, ← BitVec.getLsbD_setWidth, ← h, BitVec.getLsbD_and]
    constructor <;> ext i hi
    · have := bit (16 + i)
      have h1 : ¬ 16 + i < 8 := by omega
      have h2 : 16 + i < 32 := by omega
      simp only [h1, h2, decide_true, decide_false, Nat.le_add_right, Bool.false_or, Bool.and_true, Bool.true_and,
        BitVec.getLsbD_of_ge op (16 + i) (by omega)] at this
      simpa [Cmd.rsvd] using this
    · have := bit i
      have h2 : i < 32 := by omega
      simp only [hi, h2, decide_true, Bool.true_or, Bool.and_true, Bool.true_and] at this
      simpa [Cmd.opcode, hi, BitVec.getLsbD_eq_getElem] using this
  · rintro ⟨h1, rfl⟩
    have hz : ∀ i, i < 16 → v.getLsbD (16 + i) = false := by
      intro i hi
      have := congrArg (·.getLsbD i) h1
      simpa [Cmd.rsvd, hi] using this
    apply BitVec.eq_of_getLsbD_eq
    intro i hi
    rw [BitVec.getLsbD_and, mask_bit]
    by_cases h8 : i < 8
    · simp [h8, hi, Cmd.opcode]
    · by_cases h16 : 16 ≤ i
      · have := hz (i - 16) (by omega)
        rw [show 16 + (i - 16) = i by omega] at this
        simp [this, Cmd.opcode, h8]
      · simp [h8, h16, Cmd.opcode]

theorem commandOf_eq_none (op d : Byte) : commandOf op d = none ↔ 7 ≤ op.toNat := by
  unfold commandOf
  split <;> simp_all
  omega

/-- A word that matches the row of `op` decodes to that opcode's command. -/
theorem decode_of_match {v : Word} {op : Byte} {i : Instr} (h : v &&& 0xFFFF00FF = op.setWidth 32)
    (hc : commandOf op (Cmd.data v) = some i) : decode v = .command i := by
  obtain ⟨h1, rfl⟩ := (fields_of_match v op).1 h
  simp [decode, h1, hc]

/-- The two ways decoding can end. -/
theorem decode_cases (v : Word) :
    (∃ i, decode v = .command i ∧ Cmd.rsvd v = 0 ∧ commandOf (Cmd.opcode v) (Cmd.data v) = some i) ∨
    (∃ w, decode v = .illegal w ∧ (Cmd.rsvd v ≠ 0 ∨ 7 ≤ (Cmd.opcode v).toNat)) := by
  by_cases h : Cmd.rsvd v = 0
  · cases hc : commandOf (Cmd.opcode v) (Cmd.data v) with
    | some i => exact .inl ⟨i, by simp [decode, h, hc], h, rfl⟩
    | none => exact .inr ⟨.reservedOpcode (Cmd.opcode v), by simp [decode, h, hc], .inr ((commandOf_eq_none _ _).1 hc)⟩
  · exact .inr ⟨.rsvdNonzero (Cmd.rsvd v), if_pos h, .inl h⟩

end Sys2Proof
end

