-- ==== Sys2Proof/Laws/State.lean ====
section
/-!
SUPPORT. One lemma per field of State and update of Machine/Flags.lean and Machine/Ops.lean: what the field is after it.
-/

namespace Sys2Proof.Machine

variable (s : State)

@[simp] theorem State.markLegal_excCrcChk : (s.markLegal).excCrcChk = s.excCrcChk := rfl
@[simp] theorem State.markLegal_illegal : (s.markLegal).illegal = false := rfl
@[simp] theorem State.markLegal_crc : (s.markLegal).crc = s.crc := rfl
@[simp] theorem State.markLegal_slave : (s.markLegal).slave = s.slave := rfl
@[simp] theorem State.markLegal_func : (s.markLegal).func = s.func := rfl
@[simp] theorem State.markLegal_start : (s.markLegal).start = s.start := rfl
@[simp] theorem State.markLegal_count : (s.markLegal).count = s.count := rfl
@[simp] theorem State.markLegal_reqResult : (s.markLegal).reqResult = s.reqResult := rfl
@[simp] theorem State.markLegal_reqFrame0 : (s.markLegal).reqFrame0 = s.reqFrame0 := rfl
@[simp] theorem State.markLegal_reqFrame1 : (s.markLegal).reqFrame1 = s.reqFrame1 := rfl
@[simp] theorem State.markLegal_rxLen : (s.markLegal).rxLen = s.rxLen := rfl
@[simp] theorem State.markLegal_rxBuf : (s.markLegal).rxBuf = s.rxBuf := rfl
@[simp] theorem State.markLegal_rspResult : (s.markLegal).rspResult = s.rspResult := rfl
@[simp] theorem State.markLegal_rspAddr : (s.markLegal).rspAddr = s.rspAddr := rfl
@[simp] theorem State.markLegal_rspFunc : (s.markLegal).rspFunc = s.rspFunc := rfl
@[simp] theorem State.markLegal_rspNregs : (s.markLegal).rspNregs = s.rspNregs := rfl
@[simp] theorem State.markLegal_rspErrA : (s.markLegal).rspErrA = s.rspErrA := rfl
@[simp] theorem State.markLegal_rspErrB : (s.markLegal).rspErrB = s.rspErrB := rfl
@[simp] theorem State.markLegal_rspReg : (s.markLegal).rspReg = s.rspReg := rfl
@[simp] theorem State.markLegal_pending : (s.markLegal).pending = s.pending := rfl
@[simp] theorem State.markLegal_response : (s.markLegal).response = s.response := rfl

@[simp] theorem State.markIllegal_excCrcChk : (s.markIllegal).excCrcChk = s.excCrcChk := rfl
@[simp] theorem State.markIllegal_illegal : (s.markIllegal).illegal = true := rfl
@[simp] theorem State.markIllegal_crc : (s.markIllegal).crc = s.crc := rfl
@[simp] theorem State.markIllegal_slave : (s.markIllegal).slave = s.slave := rfl
@[simp] theorem State.markIllegal_func : (s.markIllegal).func = s.func := rfl
@[simp] theorem State.markIllegal_start : (s.markIllegal).start = s.start := rfl
@[simp] theorem State.markIllegal_count : (s.markIllegal).count = s.count := rfl
@[simp] theorem State.markIllegal_reqResult : (s.markIllegal).reqResult = s.reqResult := rfl
@[simp] theorem State.markIllegal_reqFrame0 : (s.markIllegal).reqFrame0 = s.reqFrame0 := rfl
@[simp] theorem State.markIllegal_reqFrame1 : (s.markIllegal).reqFrame1 = s.reqFrame1 := rfl
@[simp] theorem State.markIllegal_rxLen : (s.markIllegal).rxLen = s.rxLen := rfl
@[simp] theorem State.markIllegal_rxBuf : (s.markIllegal).rxBuf = s.rxBuf := rfl
@[simp] theorem State.markIllegal_rspResult : (s.markIllegal).rspResult = s.rspResult := rfl
@[simp] theorem State.markIllegal_rspAddr : (s.markIllegal).rspAddr = s.rspAddr := rfl
@[simp] theorem State.markIllegal_rspFunc : (s.markIllegal).rspFunc = s.rspFunc := rfl
@[simp] theorem State.markIllegal_rspNregs : (s.markIllegal).rspNregs = s.rspNregs := rfl
@[simp] theorem State.markIllegal_rspErrA : (s.markIllegal).rspErrA = s.rspErrA := rfl
@[simp] theorem State.markIllegal_rspErrB : (s.markIllegal).rspErrB = s.rspErrB := rfl
@[simp] theorem State.markIllegal_rspReg : (s.markIllegal).rspReg = s.rspReg := rfl
@[simp] theorem State.markIllegal_pending : (s.markIllegal).pending = s.pending := rfl
@[simp] theorem State.markIllegal_response : (s.markIllegal).response = s.response := rfl

@[simp] theorem State.writeCtrl_excCrcChk (v : Word) : (s.writeCtrl v).excCrcChk = v.getLsbD 0 := rfl
@[simp] theorem State.writeCtrl_illegal (v : Word) : (s.writeCtrl v).illegal = s.illegal := rfl
@[simp] theorem State.writeCtrl_crc (v : Word) : (s.writeCtrl v).crc = s.crc := rfl
@[simp] theorem State.writeCtrl_slave (v : Word) : (s.writeCtrl v).slave = s.slave := rfl
@[simp] theorem State.writeCtrl_func (v : Word) : (s.writeCtrl v).func = s.func := rfl
@[simp] theorem State.writeCtrl_start (v : Word) : (s.writeCtrl v).start = s.start := rfl
@[simp] theorem State.writeCtrl_count (v : Word) : (s.writeCtrl v).count = s.count := rfl
@[simp] theorem State.writeCtrl_reqResult (v : Word) : (s.writeCtrl v).reqResult = s.reqResult := rfl
@[simp] theorem State.writeCtrl_reqFrame0 (v : Word) : (s.writeCtrl v).reqFrame0 = s.reqFrame0 := rfl
@[simp] theorem State.writeCtrl_reqFrame1 (v : Word) : (s.writeCtrl v).reqFrame1 = s.reqFrame1 := rfl
@[simp] theorem State.writeCtrl_rxLen (v : Word) : (s.writeCtrl v).rxLen = s.rxLen := rfl
@[simp] theorem State.writeCtrl_rxBuf (v : Word) : (s.writeCtrl v).rxBuf = s.rxBuf := rfl
@[simp] theorem State.writeCtrl_rspResult (v : Word) : (s.writeCtrl v).rspResult = s.rspResult := rfl
@[simp] theorem State.writeCtrl_rspAddr (v : Word) : (s.writeCtrl v).rspAddr = s.rspAddr := rfl
@[simp] theorem State.writeCtrl_rspFunc (v : Word) : (s.writeCtrl v).rspFunc = s.rspFunc := rfl
@[simp] theorem State.writeCtrl_rspNregs (v : Word) : (s.writeCtrl v).rspNregs = s.rspNregs := rfl
@[simp] theorem State.writeCtrl_rspErrA (v : Word) : (s.writeCtrl v).rspErrA = s.rspErrA := rfl
@[simp] theorem State.writeCtrl_rspErrB (v : Word) : (s.writeCtrl v).rspErrB = s.rspErrB := rfl
@[simp] theorem State.writeCtrl_rspReg (v : Word) : (s.writeCtrl v).rspReg = s.rspReg := rfl
@[simp] theorem State.writeCtrl_pending (v : Word) : (s.writeCtrl v).pending = s.pending := rfl
@[simp] theorem State.writeCtrl_response (v : Word) : (s.writeCtrl v).response = s.response := rfl

@[simp] theorem State.writeReqHdr_excCrcChk (v : Word) : (s.writeReqHdr v).excCrcChk = s.excCrcChk := rfl
@[simp] theorem State.writeReqHdr_illegal (v : Word) : (s.writeReqHdr v).illegal = s.illegal := rfl
@[simp] theorem State.writeReqHdr_crc (v : Word) : (s.writeReqHdr v).crc = s.crc := rfl
@[simp] theorem State.writeReqHdr_slave (v : Word) : (s.writeReqHdr v).slave = v.extractLsb' 0 8 := rfl
@[simp] theorem State.writeReqHdr_func (v : Word) : (s.writeReqHdr v).func = v.extractLsb' 8 8 := rfl
@[simp] theorem State.writeReqHdr_start (v : Word) : (s.writeReqHdr v).start = s.start := rfl
@[simp] theorem State.writeReqHdr_count (v : Word) : (s.writeReqHdr v).count = s.count := rfl
@[simp] theorem State.writeReqHdr_reqResult (v : Word) : (s.writeReqHdr v).reqResult = s.reqResult := rfl
@[simp] theorem State.writeReqHdr_reqFrame0 (v : Word) : (s.writeReqHdr v).reqFrame0 = s.reqFrame0 := rfl
@[simp] theorem State.writeReqHdr_reqFrame1 (v : Word) : (s.writeReqHdr v).reqFrame1 = s.reqFrame1 := rfl
@[simp] theorem State.writeReqHdr_rxLen (v : Word) : (s.writeReqHdr v).rxLen = s.rxLen := rfl
@[simp] theorem State.writeReqHdr_rxBuf (v : Word) : (s.writeReqHdr v).rxBuf = s.rxBuf := rfl
@[simp] theorem State.writeReqHdr_rspResult (v : Word) : (s.writeReqHdr v).rspResult = s.rspResult := rfl
@[simp] theorem State.writeReqHdr_rspAddr (v : Word) : (s.writeReqHdr v).rspAddr = s.rspAddr := rfl
@[simp] theorem State.writeReqHdr_rspFunc (v : Word) : (s.writeReqHdr v).rspFunc = s.rspFunc := rfl
@[simp] theorem State.writeReqHdr_rspNregs (v : Word) : (s.writeReqHdr v).rspNregs = s.rspNregs := rfl
@[simp] theorem State.writeReqHdr_rspErrA (v : Word) : (s.writeReqHdr v).rspErrA = s.rspErrA := rfl
@[simp] theorem State.writeReqHdr_rspErrB (v : Word) : (s.writeReqHdr v).rspErrB = s.rspErrB := rfl
@[simp] theorem State.writeReqHdr_rspReg (v : Word) : (s.writeReqHdr v).rspReg = s.rspReg := rfl
@[simp] theorem State.writeReqHdr_pending (v : Word) : (s.writeReqHdr v).pending = s.pending := rfl
@[simp] theorem State.writeReqHdr_response (v : Word) : (s.writeReqHdr v).response = s.response := rfl

@[simp] theorem State.writeReqArgs_excCrcChk (v : Word) : (s.writeReqArgs v).excCrcChk = s.excCrcChk := rfl
@[simp] theorem State.writeReqArgs_illegal (v : Word) : (s.writeReqArgs v).illegal = s.illegal := rfl
@[simp] theorem State.writeReqArgs_crc (v : Word) : (s.writeReqArgs v).crc = s.crc := rfl
@[simp] theorem State.writeReqArgs_slave (v : Word) : (s.writeReqArgs v).slave = s.slave := rfl
@[simp] theorem State.writeReqArgs_func (v : Word) : (s.writeReqArgs v).func = s.func := rfl
@[simp] theorem State.writeReqArgs_start (v : Word) : (s.writeReqArgs v).start = v.extractLsb' 0 16 := rfl
@[simp] theorem State.writeReqArgs_count (v : Word) : (s.writeReqArgs v).count = v.extractLsb' 16 16 := rfl
@[simp] theorem State.writeReqArgs_reqResult (v : Word) : (s.writeReqArgs v).reqResult = s.reqResult := rfl
@[simp] theorem State.writeReqArgs_reqFrame0 (v : Word) : (s.writeReqArgs v).reqFrame0 = s.reqFrame0 := rfl
@[simp] theorem State.writeReqArgs_reqFrame1 (v : Word) : (s.writeReqArgs v).reqFrame1 = s.reqFrame1 := rfl
@[simp] theorem State.writeReqArgs_rxLen (v : Word) : (s.writeReqArgs v).rxLen = s.rxLen := rfl
@[simp] theorem State.writeReqArgs_rxBuf (v : Word) : (s.writeReqArgs v).rxBuf = s.rxBuf := rfl
@[simp] theorem State.writeReqArgs_rspResult (v : Word) : (s.writeReqArgs v).rspResult = s.rspResult := rfl
@[simp] theorem State.writeReqArgs_rspAddr (v : Word) : (s.writeReqArgs v).rspAddr = s.rspAddr := rfl
@[simp] theorem State.writeReqArgs_rspFunc (v : Word) : (s.writeReqArgs v).rspFunc = s.rspFunc := rfl
@[simp] theorem State.writeReqArgs_rspNregs (v : Word) : (s.writeReqArgs v).rspNregs = s.rspNregs := rfl
@[simp] theorem State.writeReqArgs_rspErrA (v : Word) : (s.writeReqArgs v).rspErrA = s.rspErrA := rfl
@[simp] theorem State.writeReqArgs_rspErrB (v : Word) : (s.writeReqArgs v).rspErrB = s.rspErrB := rfl
@[simp] theorem State.writeReqArgs_rspReg (v : Word) : (s.writeReqArgs v).rspReg = s.rspReg := rfl
@[simp] theorem State.writeReqArgs_pending (v : Word) : (s.writeReqArgs v).pending = s.pending := rfl
@[simp] theorem State.writeReqArgs_response (v : Word) : (s.writeReqArgs v).response = s.response := rfl

@[simp] theorem State.setCrc_excCrcChk (c : Half) : (s.setCrc c).excCrcChk = s.excCrcChk := rfl
@[simp] theorem State.setCrc_illegal (c : Half) : (s.setCrc c).illegal = s.illegal := rfl
@[simp] theorem State.setCrc_crc (c : Half) : (s.setCrc c).crc = c := rfl
@[simp] theorem State.setCrc_slave (c : Half) : (s.setCrc c).slave = s.slave := rfl
@[simp] theorem State.setCrc_func (c : Half) : (s.setCrc c).func = s.func := rfl
@[simp] theorem State.setCrc_start (c : Half) : (s.setCrc c).start = s.start := rfl
@[simp] theorem State.setCrc_count (c : Half) : (s.setCrc c).count = s.count := rfl
@[simp] theorem State.setCrc_reqResult (c : Half) : (s.setCrc c).reqResult = s.reqResult := rfl
@[simp] theorem State.setCrc_reqFrame0 (c : Half) : (s.setCrc c).reqFrame0 = s.reqFrame0 := rfl
@[simp] theorem State.setCrc_reqFrame1 (c : Half) : (s.setCrc c).reqFrame1 = s.reqFrame1 := rfl
@[simp] theorem State.setCrc_rxLen (c : Half) : (s.setCrc c).rxLen = s.rxLen := rfl
@[simp] theorem State.setCrc_rxBuf (c : Half) : (s.setCrc c).rxBuf = s.rxBuf := rfl
@[simp] theorem State.setCrc_rspResult (c : Half) : (s.setCrc c).rspResult = s.rspResult := rfl
@[simp] theorem State.setCrc_rspAddr (c : Half) : (s.setCrc c).rspAddr = s.rspAddr := rfl
@[simp] theorem State.setCrc_rspFunc (c : Half) : (s.setCrc c).rspFunc = s.rspFunc := rfl
@[simp] theorem State.setCrc_rspNregs (c : Half) : (s.setCrc c).rspNregs = s.rspNregs := rfl
@[simp] theorem State.setCrc_rspErrA (c : Half) : (s.setCrc c).rspErrA = s.rspErrA := rfl
@[simp] theorem State.setCrc_rspErrB (c : Half) : (s.setCrc c).rspErrB = s.rspErrB := rfl
@[simp] theorem State.setCrc_rspReg (c : Half) : (s.setCrc c).rspReg = s.rspReg := rfl
@[simp] theorem State.setCrc_pending (c : Half) : (s.setCrc c).pending = s.pending := rfl
@[simp] theorem State.setCrc_response (c : Half) : (s.setCrc c).response = s.response := rfl

@[simp] theorem State.setRequest_excCrcChk (r : ReqResult) (f0 f1 : Word) : (s.setRequest r f0 f1).excCrcChk = s.excCrcChk := rfl
@[simp] theorem State.setRequest_illegal (r : ReqResult) (f0 f1 : Word) : (s.setRequest r f0 f1).illegal = s.illegal := rfl
@[simp] theorem State.setRequest_crc (r : ReqResult) (f0 f1 : Word) : (s.setRequest r f0 f1).crc = s.crc := rfl
@[simp] theorem State.setRequest_slave (r : ReqResult) (f0 f1 : Word) : (s.setRequest r f0 f1).slave = s.slave := rfl
@[simp] theorem State.setRequest_func (r : ReqResult) (f0 f1 : Word) : (s.setRequest r f0 f1).func = s.func := rfl
@[simp] theorem State.setRequest_start (r : ReqResult) (f0 f1 : Word) : (s.setRequest r f0 f1).start = s.start := rfl
@[simp] theorem State.setRequest_count (r : ReqResult) (f0 f1 : Word) : (s.setRequest r f0 f1).count = s.count := rfl
@[simp] theorem State.setRequest_reqResult (r : ReqResult) (f0 f1 : Word) : (s.setRequest r f0 f1).reqResult = r := rfl
@[simp] theorem State.setRequest_reqFrame0 (r : ReqResult) (f0 f1 : Word) : (s.setRequest r f0 f1).reqFrame0 = f0 := rfl
@[simp] theorem State.setRequest_reqFrame1 (r : ReqResult) (f0 f1 : Word) : (s.setRequest r f0 f1).reqFrame1 = f1 := rfl
@[simp] theorem State.setRequest_rxLen (r : ReqResult) (f0 f1 : Word) : (s.setRequest r f0 f1).rxLen = s.rxLen := rfl
@[simp] theorem State.setRequest_rxBuf (r : ReqResult) (f0 f1 : Word) : (s.setRequest r f0 f1).rxBuf = s.rxBuf := rfl
@[simp] theorem State.setRequest_rspResult (r : ReqResult) (f0 f1 : Word) : (s.setRequest r f0 f1).rspResult = s.rspResult := rfl
@[simp] theorem State.setRequest_rspAddr (r : ReqResult) (f0 f1 : Word) : (s.setRequest r f0 f1).rspAddr = s.rspAddr := rfl
@[simp] theorem State.setRequest_rspFunc (r : ReqResult) (f0 f1 : Word) : (s.setRequest r f0 f1).rspFunc = s.rspFunc := rfl
@[simp] theorem State.setRequest_rspNregs (r : ReqResult) (f0 f1 : Word) : (s.setRequest r f0 f1).rspNregs = s.rspNregs := rfl
@[simp] theorem State.setRequest_rspErrA (r : ReqResult) (f0 f1 : Word) : (s.setRequest r f0 f1).rspErrA = s.rspErrA := rfl
@[simp] theorem State.setRequest_rspErrB (r : ReqResult) (f0 f1 : Word) : (s.setRequest r f0 f1).rspErrB = s.rspErrB := rfl
@[simp] theorem State.setRequest_rspReg (r : ReqResult) (f0 f1 : Word) : (s.setRequest r f0 f1).rspReg = s.rspReg := rfl
@[simp] theorem State.setRequest_pending (r : ReqResult) (f0 f1 : Word) : (s.setRequest r f0 f1).pending = s.pending := rfl
@[simp] theorem State.setRequest_response (r : ReqResult) (f0 f1 : Word) : (s.setRequest r f0 f1).response = s.response := rfl

@[simp] theorem State.setRxLen_excCrcChk (n : Half) : (s.setRxLen n).excCrcChk = s.excCrcChk := rfl
@[simp] theorem State.setRxLen_illegal (n : Half) : (s.setRxLen n).illegal = s.illegal := rfl
@[simp] theorem State.setRxLen_crc (n : Half) : (s.setRxLen n).crc = s.crc := rfl
@[simp] theorem State.setRxLen_slave (n : Half) : (s.setRxLen n).slave = s.slave := rfl
@[simp] theorem State.setRxLen_func (n : Half) : (s.setRxLen n).func = s.func := rfl
@[simp] theorem State.setRxLen_start (n : Half) : (s.setRxLen n).start = s.start := rfl
@[simp] theorem State.setRxLen_count (n : Half) : (s.setRxLen n).count = s.count := rfl
@[simp] theorem State.setRxLen_reqResult (n : Half) : (s.setRxLen n).reqResult = s.reqResult := rfl
@[simp] theorem State.setRxLen_reqFrame0 (n : Half) : (s.setRxLen n).reqFrame0 = s.reqFrame0 := rfl
@[simp] theorem State.setRxLen_reqFrame1 (n : Half) : (s.setRxLen n).reqFrame1 = s.reqFrame1 := rfl
@[simp] theorem State.setRxLen_rxLen (n : Half) : (s.setRxLen n).rxLen = n := rfl
@[simp] theorem State.setRxLen_rxBuf (n : Half) : (s.setRxLen n).rxBuf = s.rxBuf := rfl
@[simp] theorem State.setRxLen_rspResult (n : Half) : (s.setRxLen n).rspResult = s.rspResult := rfl
@[simp] theorem State.setRxLen_rspAddr (n : Half) : (s.setRxLen n).rspAddr = s.rspAddr := rfl
@[simp] theorem State.setRxLen_rspFunc (n : Half) : (s.setRxLen n).rspFunc = s.rspFunc := rfl
@[simp] theorem State.setRxLen_rspNregs (n : Half) : (s.setRxLen n).rspNregs = s.rspNregs := rfl
@[simp] theorem State.setRxLen_rspErrA (n : Half) : (s.setRxLen n).rspErrA = s.rspErrA := rfl
@[simp] theorem State.setRxLen_rspErrB (n : Half) : (s.setRxLen n).rspErrB = s.rspErrB := rfl
@[simp] theorem State.setRxLen_rspReg (n : Half) : (s.setRxLen n).rspReg = s.rspReg := rfl
@[simp] theorem State.setRxLen_pending (n : Half) : (s.setRxLen n).pending = s.pending := rfl
@[simp] theorem State.setRxLen_response (n : Half) : (s.setRxLen n).response = s.response := rfl

@[simp] theorem State.storeRx_excCrcChk (k : Nat) (b : Byte) : (s.storeRx k b).excCrcChk = s.excCrcChk := rfl
@[simp] theorem State.storeRx_illegal (k : Nat) (b : Byte) : (s.storeRx k b).illegal = s.illegal := rfl
@[simp] theorem State.storeRx_crc (k : Nat) (b : Byte) : (s.storeRx k b).crc = s.crc := rfl
@[simp] theorem State.storeRx_slave (k : Nat) (b : Byte) : (s.storeRx k b).slave = s.slave := rfl
@[simp] theorem State.storeRx_func (k : Nat) (b : Byte) : (s.storeRx k b).func = s.func := rfl
@[simp] theorem State.storeRx_start (k : Nat) (b : Byte) : (s.storeRx k b).start = s.start := rfl
@[simp] theorem State.storeRx_count (k : Nat) (b : Byte) : (s.storeRx k b).count = s.count := rfl
@[simp] theorem State.storeRx_reqResult (k : Nat) (b : Byte) : (s.storeRx k b).reqResult = s.reqResult := rfl
@[simp] theorem State.storeRx_reqFrame0 (k : Nat) (b : Byte) : (s.storeRx k b).reqFrame0 = s.reqFrame0 := rfl
@[simp] theorem State.storeRx_reqFrame1 (k : Nat) (b : Byte) : (s.storeRx k b).reqFrame1 = s.reqFrame1 := rfl
@[simp] theorem State.storeRx_rxLen (k : Nat) (b : Byte) : (s.storeRx k b).rxLen = s.rxLen := rfl
@[simp] theorem State.storeRx_rxBuf (k : Nat) (b : Byte) : (s.storeRx k b).rxBuf = s.rxBuf.setIfInBounds k b := rfl
@[simp] theorem State.storeRx_rspResult (k : Nat) (b : Byte) : (s.storeRx k b).rspResult = s.rspResult := rfl
@[simp] theorem State.storeRx_rspAddr (k : Nat) (b : Byte) : (s.storeRx k b).rspAddr = s.rspAddr := rfl
@[simp] theorem State.storeRx_rspFunc (k : Nat) (b : Byte) : (s.storeRx k b).rspFunc = s.rspFunc := rfl
@[simp] theorem State.storeRx_rspNregs (k : Nat) (b : Byte) : (s.storeRx k b).rspNregs = s.rspNregs := rfl
@[simp] theorem State.storeRx_rspErrA (k : Nat) (b : Byte) : (s.storeRx k b).rspErrA = s.rspErrA := rfl
@[simp] theorem State.storeRx_rspErrB (k : Nat) (b : Byte) : (s.storeRx k b).rspErrB = s.rspErrB := rfl
@[simp] theorem State.storeRx_rspReg (k : Nat) (b : Byte) : (s.storeRx k b).rspReg = s.rspReg := rfl
@[simp] theorem State.storeRx_pending (k : Nat) (b : Byte) : (s.storeRx k b).pending = s.pending := rfl
@[simp] theorem State.storeRx_response (k : Nat) (b : Byte) : (s.storeRx k b).response = s.response := rfl

@[simp] theorem State.clearResult_excCrcChk : (s.clearResult).excCrcChk = s.excCrcChk := rfl
@[simp] theorem State.clearResult_illegal : (s.clearResult).illegal = s.illegal := rfl
@[simp] theorem State.clearResult_crc : (s.clearResult).crc = s.crc := rfl
@[simp] theorem State.clearResult_slave : (s.clearResult).slave = s.slave := rfl
@[simp] theorem State.clearResult_func : (s.clearResult).func = s.func := rfl
@[simp] theorem State.clearResult_start : (s.clearResult).start = s.start := rfl
@[simp] theorem State.clearResult_count : (s.clearResult).count = s.count := rfl
@[simp] theorem State.clearResult_reqResult : (s.clearResult).reqResult = s.reqResult := rfl
@[simp] theorem State.clearResult_reqFrame0 : (s.clearResult).reqFrame0 = s.reqFrame0 := rfl
@[simp] theorem State.clearResult_reqFrame1 : (s.clearResult).reqFrame1 = s.reqFrame1 := rfl
@[simp] theorem State.clearResult_rxLen : (s.clearResult).rxLen = s.rxLen := rfl
@[simp] theorem State.clearResult_rxBuf : (s.clearResult).rxBuf = s.rxBuf := rfl
@[simp] theorem State.clearResult_rspResult : (s.clearResult).rspResult = .none := rfl
@[simp] theorem State.clearResult_rspAddr : (s.clearResult).rspAddr = 0 := rfl
@[simp] theorem State.clearResult_rspFunc : (s.clearResult).rspFunc = 0 := rfl
@[simp] theorem State.clearResult_rspNregs : (s.clearResult).rspNregs = 0 := rfl
@[simp] theorem State.clearResult_rspErrA : (s.clearResult).rspErrA = 0 := rfl
@[simp] theorem State.clearResult_rspErrB : (s.clearResult).rspErrB = 0 := rfl
@[simp] theorem State.clearResult_rspReg : (s.clearResult).rspReg = Vector.replicate Config.maxRegs 0 := rfl
@[simp] theorem State.clearResult_pending : (s.clearResult).pending = s.pending := rfl
@[simp] theorem State.clearResult_response : (s.clearResult).response = s.response := rfl

@[simp] theorem State.setError_excCrcChk (r : RspResult) (a b : Half) : (s.setError r a b).excCrcChk = s.excCrcChk := rfl
@[simp] theorem State.setError_illegal (r : RspResult) (a b : Half) : (s.setError r a b).illegal = s.illegal := rfl
@[simp] theorem State.setError_crc (r : RspResult) (a b : Half) : (s.setError r a b).crc = s.crc := rfl
@[simp] theorem State.setError_slave (r : RspResult) (a b : Half) : (s.setError r a b).slave = s.slave := rfl
@[simp] theorem State.setError_func (r : RspResult) (a b : Half) : (s.setError r a b).func = s.func := rfl
@[simp] theorem State.setError_start (r : RspResult) (a b : Half) : (s.setError r a b).start = s.start := rfl
@[simp] theorem State.setError_count (r : RspResult) (a b : Half) : (s.setError r a b).count = s.count := rfl
@[simp] theorem State.setError_reqResult (r : RspResult) (a b : Half) : (s.setError r a b).reqResult = s.reqResult := rfl
@[simp] theorem State.setError_reqFrame0 (r : RspResult) (a b : Half) : (s.setError r a b).reqFrame0 = s.reqFrame0 := rfl
@[simp] theorem State.setError_reqFrame1 (r : RspResult) (a b : Half) : (s.setError r a b).reqFrame1 = s.reqFrame1 := rfl
@[simp] theorem State.setError_rxLen (r : RspResult) (a b : Half) : (s.setError r a b).rxLen = s.rxLen := rfl
@[simp] theorem State.setError_rxBuf (r : RspResult) (a b : Half) : (s.setError r a b).rxBuf = s.rxBuf := rfl
@[simp] theorem State.setError_rspResult (r : RspResult) (a b : Half) : (s.setError r a b).rspResult = r := rfl
@[simp] theorem State.setError_rspAddr (r : RspResult) (a b : Half) : (s.setError r a b).rspAddr = s.rspAddr := rfl
@[simp] theorem State.setError_rspFunc (r : RspResult) (a b : Half) : (s.setError r a b).rspFunc = s.rspFunc := rfl
@[simp] theorem State.setError_rspNregs (r : RspResult) (a b : Half) : (s.setError r a b).rspNregs = s.rspNregs := rfl
@[simp] theorem State.setError_rspErrA (r : RspResult) (a b : Half) : (s.setError r a b).rspErrA = a := rfl
@[simp] theorem State.setError_rspErrB (r : RspResult) (a b : Half) : (s.setError r a b).rspErrB = b := rfl
@[simp] theorem State.setError_rspReg (r : RspResult) (a b : Half) : (s.setError r a b).rspReg = s.rspReg := rfl
@[simp] theorem State.setError_pending (r : RspResult) (a b : Half) : (s.setError r a b).pending = s.pending := rfl
@[simp] theorem State.setError_response (r : RspResult) (a b : Half) : (s.setError r a b).response = s.response := rfl

@[simp] theorem State.setDecoded_excCrcChk (a f : Byte) (regs : List Half) : (s.setDecoded a f regs).excCrcChk = s.excCrcChk := rfl
@[simp] theorem State.setDecoded_illegal (a f : Byte) (regs : List Half) : (s.setDecoded a f regs).illegal = s.illegal := rfl
@[simp] theorem State.setDecoded_crc (a f : Byte) (regs : List Half) : (s.setDecoded a f regs).crc = s.crc := rfl
@[simp] theorem State.setDecoded_slave (a f : Byte) (regs : List Half) : (s.setDecoded a f regs).slave = s.slave := rfl
@[simp] theorem State.setDecoded_func (a f : Byte) (regs : List Half) : (s.setDecoded a f regs).func = s.func := rfl
@[simp] theorem State.setDecoded_start (a f : Byte) (regs : List Half) : (s.setDecoded a f regs).start = s.start := rfl
@[simp] theorem State.setDecoded_count (a f : Byte) (regs : List Half) : (s.setDecoded a f regs).count = s.count := rfl
@[simp] theorem State.setDecoded_reqResult (a f : Byte) (regs : List Half) : (s.setDecoded a f regs).reqResult = s.reqResult := rfl
@[simp] theorem State.setDecoded_reqFrame0 (a f : Byte) (regs : List Half) : (s.setDecoded a f regs).reqFrame0 = s.reqFrame0 := rfl
@[simp] theorem State.setDecoded_reqFrame1 (a f : Byte) (regs : List Half) : (s.setDecoded a f regs).reqFrame1 = s.reqFrame1 := rfl
@[simp] theorem State.setDecoded_rxLen (a f : Byte) (regs : List Half) : (s.setDecoded a f regs).rxLen = s.rxLen := rfl
@[simp] theorem State.setDecoded_rxBuf (a f : Byte) (regs : List Half) : (s.setDecoded a f regs).rxBuf = s.rxBuf := rfl
@[simp] theorem State.setDecoded_rspResult (a f : Byte) (regs : List Half) : (s.setDecoded a f regs).rspResult = .ok := rfl
@[simp] theorem State.setDecoded_rspAddr (a f : Byte) (regs : List Half) : (s.setDecoded a f regs).rspAddr = a := rfl
@[simp] theorem State.setDecoded_rspFunc (a f : Byte) (regs : List Half) : (s.setDecoded a f regs).rspFunc = f := rfl
@[simp] theorem State.setDecoded_rspNregs (a f : Byte) (regs : List Half) : (s.setDecoded a f regs).rspNregs = BitVec.ofNat 8 regs.length := rfl
@[simp] theorem State.setDecoded_rspErrA (a f : Byte) (regs : List Half) : (s.setDecoded a f regs).rspErrA = s.rspErrA := rfl
@[simp] theorem State.setDecoded_rspErrB (a f : Byte) (regs : List Half) : (s.setDecoded a f regs).rspErrB = s.rspErrB := rfl
@[simp] theorem State.setDecoded_rspReg (a f : Byte) (regs : List Half) : (s.setDecoded a f regs).rspReg = storeRegs regs s.rspReg := rfl
@[simp] theorem State.setDecoded_pending (a f : Byte) (regs : List Half) : (s.setDecoded a f regs).pending = s.pending := rfl
@[simp] theorem State.setDecoded_response (a f : Byte) (regs : List Half) : (s.setDecoded a f regs).response = s.response := rfl

@[simp] theorem State.respond_excCrcChk (r : BusResponse) : (s.respond r).excCrcChk = s.excCrcChk := rfl
@[simp] theorem State.respond_illegal (r : BusResponse) : (s.respond r).illegal = s.illegal := rfl
@[simp] theorem State.respond_crc (r : BusResponse) : (s.respond r).crc = s.crc := rfl
@[simp] theorem State.respond_slave (r : BusResponse) : (s.respond r).slave = s.slave := rfl
@[simp] theorem State.respond_func (r : BusResponse) : (s.respond r).func = s.func := rfl
@[simp] theorem State.respond_start (r : BusResponse) : (s.respond r).start = s.start := rfl
@[simp] theorem State.respond_count (r : BusResponse) : (s.respond r).count = s.count := rfl
@[simp] theorem State.respond_reqResult (r : BusResponse) : (s.respond r).reqResult = s.reqResult := rfl
@[simp] theorem State.respond_reqFrame0 (r : BusResponse) : (s.respond r).reqFrame0 = s.reqFrame0 := rfl
@[simp] theorem State.respond_reqFrame1 (r : BusResponse) : (s.respond r).reqFrame1 = s.reqFrame1 := rfl
@[simp] theorem State.respond_rxLen (r : BusResponse) : (s.respond r).rxLen = s.rxLen := rfl
@[simp] theorem State.respond_rxBuf (r : BusResponse) : (s.respond r).rxBuf = s.rxBuf := rfl
@[simp] theorem State.respond_rspResult (r : BusResponse) : (s.respond r).rspResult = s.rspResult := rfl
@[simp] theorem State.respond_rspAddr (r : BusResponse) : (s.respond r).rspAddr = s.rspAddr := rfl
@[simp] theorem State.respond_rspFunc (r : BusResponse) : (s.respond r).rspFunc = s.rspFunc := rfl
@[simp] theorem State.respond_rspNregs (r : BusResponse) : (s.respond r).rspNregs = s.rspNregs := rfl
@[simp] theorem State.respond_rspErrA (r : BusResponse) : (s.respond r).rspErrA = s.rspErrA := rfl
@[simp] theorem State.respond_rspErrB (r : BusResponse) : (s.respond r).rspErrB = s.rspErrB := rfl
@[simp] theorem State.respond_rspReg (r : BusResponse) : (s.respond r).rspReg = s.rspReg := rfl
@[simp] theorem State.respond_pending (r : BusResponse) : (s.respond r).pending = s.pending := rfl
@[simp] theorem State.respond_response (r : BusResponse) : (s.respond r).response = some r := rfl

@[simp] theorem State.setPending_excCrcChk (es : List HostEvent) : (s.setPending es).excCrcChk = s.excCrcChk := rfl
@[simp] theorem State.setPending_illegal (es : List HostEvent) : (s.setPending es).illegal = s.illegal := rfl
@[simp] theorem State.setPending_crc (es : List HostEvent) : (s.setPending es).crc = s.crc := rfl
@[simp] theorem State.setPending_slave (es : List HostEvent) : (s.setPending es).slave = s.slave := rfl
@[simp] theorem State.setPending_func (es : List HostEvent) : (s.setPending es).func = s.func := rfl
@[simp] theorem State.setPending_start (es : List HostEvent) : (s.setPending es).start = s.start := rfl
@[simp] theorem State.setPending_count (es : List HostEvent) : (s.setPending es).count = s.count := rfl
@[simp] theorem State.setPending_reqResult (es : List HostEvent) : (s.setPending es).reqResult = s.reqResult := rfl
@[simp] theorem State.setPending_reqFrame0 (es : List HostEvent) : (s.setPending es).reqFrame0 = s.reqFrame0 := rfl
@[simp] theorem State.setPending_reqFrame1 (es : List HostEvent) : (s.setPending es).reqFrame1 = s.reqFrame1 := rfl
@[simp] theorem State.setPending_rxLen (es : List HostEvent) : (s.setPending es).rxLen = s.rxLen := rfl
@[simp] theorem State.setPending_rxBuf (es : List HostEvent) : (s.setPending es).rxBuf = s.rxBuf := rfl
@[simp] theorem State.setPending_rspResult (es : List HostEvent) : (s.setPending es).rspResult = s.rspResult := rfl
@[simp] theorem State.setPending_rspAddr (es : List HostEvent) : (s.setPending es).rspAddr = s.rspAddr := rfl
@[simp] theorem State.setPending_rspFunc (es : List HostEvent) : (s.setPending es).rspFunc = s.rspFunc := rfl
@[simp] theorem State.setPending_rspNregs (es : List HostEvent) : (s.setPending es).rspNregs = s.rspNregs := rfl
@[simp] theorem State.setPending_rspErrA (es : List HostEvent) : (s.setPending es).rspErrA = s.rspErrA := rfl
@[simp] theorem State.setPending_rspErrB (es : List HostEvent) : (s.setPending es).rspErrB = s.rspErrB := rfl
@[simp] theorem State.setPending_rspReg (es : List HostEvent) : (s.setPending es).rspReg = s.rspReg := rfl
@[simp] theorem State.setPending_pending (es : List HostEvent) : (s.setPending es).pending = es := rfl
@[simp] theorem State.setPending_response (es : List HostEvent) : (s.setPending es).response = s.response := rfl

end Sys2Proof.Machine
end

