-- ==== Sys2Proof/Laws/Regs.lean ====
section
/-!
SUPPORT. The register map and what each update leaves readable: every register outside the update's own reads as before
(frames), the port and the buffer are invisible in the registers, and the register at a register's offset is that register.
-/

namespace Sys2Proof.Machine

variable (s : State)

theorem State.readReg_markLegal {r : Reg} (h : r ≠ .cmdStatus) :
    (s.markLegal).readReg r = s.readReg r := by
  cases r <;> first | exact absurd rfl h | rfl

theorem State.readReg_markIllegal {r : Reg} (h : r ≠ .cmdStatus) :
    (s.markIllegal).readReg r = s.readReg r := by
  cases r <;> first | exact absurd rfl h | rfl

theorem State.readReg_writeCtrl (v : Word) {r : Reg} (h : r ≠ .ctrl) :
    (s.writeCtrl v).readReg r = s.readReg r := by
  cases r <;> first | exact absurd rfl h | rfl

theorem State.readReg_writeReqHdr (v : Word) {r : Reg} (h : r ≠ .reqHdr) :
    (s.writeReqHdr v).readReg r = s.readReg r := by
  cases r <;> first | exact absurd rfl h | rfl

theorem State.readReg_writeReqArgs (v : Word) {r : Reg} (h : r ≠ .reqArgs) :
    (s.writeReqArgs v).readReg r = s.readReg r := by
  cases r <;> first | exact absurd rfl h | rfl

theorem State.readReg_setCrc (c : Half) {r : Reg} (h : r ≠ .crc) :
    (s.setCrc c).readReg r = s.readReg r := by
  cases r <;> first | exact absurd rfl h | rfl

theorem State.readReg_setRequest (q : ReqResult) (f0 f1 : Word) {r : Reg} (h : r.isRequestResult = false) :
    (s.setRequest q f0 f1).readReg r = s.readReg r := by
  cases r <;> first | exact Bool.noConfusion h | rfl

theorem State.readReg_setRxLen (n : Half) {r : Reg} (h : r ≠ .rxLen) :
    (s.setRxLen n).readReg r = s.readReg r := by
  cases r <;> first | exact absurd rfl h | rfl

theorem State.readReg_clearResult {r : Reg} (h : r.isResult = false) :
    (s.clearResult).readReg r = s.readReg r := by
  cases r <;> first | exact Bool.noConfusion h | rfl

theorem State.readReg_setError (q : RspResult) (a b : Half) {r : Reg} (h : r.isResult = false) :
    (s.setError q a b).readReg r = s.readReg r := by
  cases r <;> first | exact Bool.noConfusion h | rfl

theorem State.readReg_setDecoded (a f : Byte) (regs : List Half) {r : Reg} (h : r.isResult = false) :
    (s.setDecoded a f regs).readReg r = s.readReg r := by
  cases r <;> first | exact Bool.noConfusion h | rfl

theorem State.readReg_recordBuild (b : BuildResult) {r : Reg} (h : r.isRequestResult = false) :
    (s.recordBuild b).readReg r = s.readReg r := by
  cases b <;> exact State.readReg_setRequest s _ _ _ h

theorem State.readReg_recordResult (p : ParseResult) {r : Reg} (h : r.isResult = false) :
    (s.recordResult p).readReg r = s.readReg r := by
  cases p <;> first | exact State.readReg_setDecoded s _ _ _ h | exact State.readReg_setError s _ _ _ h

@[simp] theorem State.recordBuild_pending (b : BuildResult) : (s.recordBuild b).pending = s.pending := by cases b <;> rfl

@[simp] theorem State.recordResult_pending (p : ParseResult) : (s.recordResult p).pending = s.pending := by cases p <;> rfl

@[simp] theorem State.recordBuild_response (b : BuildResult) : (s.recordBuild b).response = s.response := by cases b <;> rfl

@[simp] theorem State.recordResult_response (p : ParseResult) : (s.recordResult p).response = s.response := by cases p <;> rfl

@[simp] theorem State.recordBuild_rxLen (b : BuildResult) : (s.recordBuild b).rxLen = s.rxLen := by cases b <;> rfl

@[simp] theorem State.recordResult_rxLen (p : ParseResult) : (s.recordResult p).rxLen = s.rxLen := by cases p <;> rfl

@[simp] theorem State.recordBuild_excCrcChk (b : BuildResult) : (s.recordBuild b).excCrcChk = s.excCrcChk := by cases b <;> rfl

@[simp] theorem State.recordResult_excCrcChk (p : ParseResult) : (s.recordResult p).excCrcChk = s.excCrcChk := by cases p <;> rfl

@[simp] theorem State.recordBuild_slave (b : BuildResult) : (s.recordBuild b).slave = s.slave := by cases b <;> rfl

@[simp] theorem State.recordResult_slave (p : ParseResult) : (s.recordResult p).slave = s.slave := by cases p <;> rfl

@[simp] theorem State.recordBuild_func (b : BuildResult) : (s.recordBuild b).func = s.func := by cases b <;> rfl

@[simp] theorem State.recordResult_func (p : ParseResult) : (s.recordResult p).func = s.func := by cases p <;> rfl

@[simp] theorem State.recordBuild_start (b : BuildResult) : (s.recordBuild b).start = s.start := by cases b <;> rfl

@[simp] theorem State.recordResult_start (p : ParseResult) : (s.recordResult p).start = s.start := by cases p <;> rfl

@[simp] theorem State.recordBuild_count (b : BuildResult) : (s.recordBuild b).count = s.count := by cases b <;> rfl

@[simp] theorem State.recordResult_count (p : ParseResult) : (s.recordResult p).count = s.count := by cases p <;> rfl

@[simp] theorem State.recordBuild_crc (b : BuildResult) : (s.recordBuild b).crc = s.crc := by cases b <;> rfl

@[simp] theorem State.recordResult_crc (p : ParseResult) : (s.recordResult p).crc = s.crc := by cases p <;> rfl

@[simp] theorem State.rxByte_recordBuild (b : BuildResult) : (s.recordBuild b).rxByte = s.rxByte := by cases b <;> rfl

@[simp] theorem State.rxByte_recordResult (p : ParseResult) : (s.recordResult p).rxByte = s.rxByte := by cases p <;> rfl

@[simp] theorem State.readReg_storeRx (k : Nat) (b : Byte) (r : Reg) : (s.storeRx k b).readReg r = s.readReg r := by
  cases r <;> rfl

@[simp] theorem State.readReg_respond (q : BusResponse) (r : Reg) : (s.respond q).readReg r = s.readReg r := by
  cases r <;> rfl

@[simp] theorem State.readReg_setPending (es : List HostEvent) (r : Reg) : (s.setPending es).readReg r = s.readReg r := by
  cases r <;> rfl

@[simp] theorem State.rxByte_markLegal : (s.markLegal).rxByte = s.rxByte := rfl

@[simp] theorem State.rxByte_markIllegal : (s.markIllegal).rxByte = s.rxByte := rfl

@[simp] theorem State.rxByte_writeCtrl (v : Word) : (s.writeCtrl v).rxByte = s.rxByte := rfl

@[simp] theorem State.rxByte_writeReqHdr (v : Word) : (s.writeReqHdr v).rxByte = s.rxByte := rfl

@[simp] theorem State.rxByte_writeReqArgs (v : Word) : (s.writeReqArgs v).rxByte = s.rxByte := rfl

@[simp] theorem State.rxByte_setCrc (c : Half) : (s.setCrc c).rxByte = s.rxByte := rfl

@[simp] theorem State.rxByte_setRequest (q : ReqResult) (f0 f1 : Word) : (s.setRequest q f0 f1).rxByte = s.rxByte := rfl

@[simp] theorem State.rxByte_setRxLen (n : Half) : (s.setRxLen n).rxByte = s.rxByte := rfl

@[simp] theorem State.rxByte_clearResult : (s.clearResult).rxByte = s.rxByte := rfl

@[simp] theorem State.rxByte_setError (q : RspResult) (a b : Half) : (s.setError q a b).rxByte = s.rxByte := rfl

@[simp] theorem State.rxByte_setDecoded (a f : Byte) (regs : List Half) : (s.setDecoded a f regs).rxByte = s.rxByte := rfl

@[simp] theorem State.rxByte_respond (q : BusResponse) : (s.respond q).rxByte = s.rxByte := rfl

@[simp] theorem State.rxByte_setPending (es : List HostEvent) : (s.setPending es).rxByte = s.rxByte := rfl

/-- A stored byte is read back while its index is below RX_CAP (R151). -/
theorem State.rxByte_storeRx_same {k : Nat} (b : Byte) (h : k < Config.rxCap) : (s.storeRx k b).rxByte k = b := by
  simp [State.rxByte, State.storeRx, h]

/-- Storing leaves every other byte of RX_BUF alone. -/
theorem State.rxByte_storeRx_other {k i : Nat} (b : Byte) (h : i ≠ k) : (s.storeRx k b).rxByte i = s.rxByte i := by
  simp [State.rxByte, State.storeRx, Ne.symm h]

/-- At or above RX_CAP nothing is stored (R151). -/
theorem State.storeRx_beyond {k : Nat} (b : Byte) (h : Config.rxCap ≤ k) : s.storeRx k b = s := by
  have : s.rxBuf.setIfInBounds k b = s.rxBuf := by
    ext i hi
    rw [Vector.getElem_setIfInBounds]
    have : k ≠ i := by omega
    simp [this]
  simp [State.storeRx, this]

/-- The buffer is what its bytes are. -/
theorem rxBuf_ext {s t : State} (h : ∀ i, s.rxByte i = t.rxByte i) : s.rxBuf = t.rxBuf := by
  ext i hi
  have := h i
  simp only [State.rxByte, hi, Vector.getElem?_eq_getElem, Option.getD_some] at this
  rw [this]

theorem Reg.offset_rspReg (i : Fin Config.maxRegs) : (Reg.rspReg i).offset = 0x100 + 4 * i.val := rfl

/-- The register at an offset is one whose offset that is (R20). -/
theorem Reg.offset_of_at? {n : Nat} {r : Reg} (h : Reg.at? n = some r) : n = r.offset := by
  unfold Reg.at? at h
  split at h <;> first
    | (cases h; done)
    | (cases h; rfl)
    | (split at h
       · rename_i hc
         cases h
         rw [Reg.offset_rspReg]
         simp only
         omega
       · cases h)

/-- The register at a register's offset is that register, but for RSP_REG[63], where R20 says unmapped: no two share one. -/
theorem Reg.at?_offset {r : Reg} (h63 : r ≠ .rspReg 63) : Reg.at? r.offset = some r := by
  cases r with
  | rspReg i =>
    have hi : i.val < 127 := i.isLt
    have hn : i.val ≠ 63 := fun h => h63 (congrArg Reg.rspReg (Fin.ext h))
    have ho := Reg.offset_rspReg i
    unfold Reg.at?
    split <;> rename_i hm <;> try (rw [ho] at hm; omega)
    rw [dif_pos (by rw [ho]; simp [hi])]
    simp only [ho, Option.some.injEq, Reg.rspReg.injEq]
    apply Fin.ext
    simp
  | _ => rfl

end Sys2Proof.Machine
end

