-- ==== Sys2Proof/Laws/Bus.lean ====
section
/-!
SUPPORT. What the commands and the port can do, each said once: the equation of every arm of exec, the answers of busRead and
busWrite, and the inversion of one step.
-/

namespace Sys2Proof.Machine

theorem exec_nop (s : State) : exec .nop s = .next s.markLegal := rfl

theorem exec_crcInit (s : State) : exec .crcInit s = .next (s.setCrc crcSeed).markLegal := rfl

theorem exec_crcByte (b : Byte) (s : State) : exec (.crcByte b) s = .next (s.setCrc (crcByte s.crc b)).markLegal := rfl

theorem exec_reqBuild (s : State) :
    exec .reqBuild s = .next (s.recordBuild (buildRequest s.slave s.func s.start s.count)).markLegal := rfl

theorem exec_rxClear (s : State) : exec .rxClear s = .next (s.setRxLen 0).clearResult.markLegal := rfl

theorem exec_rxPush (b : Byte) (s : State) :
    exec (.rxPush b) s = .next ((s.storeRx s.rxLen.toNat b).setRxLen (satSucc s.rxLen)).clearResult.markLegal := rfl

theorem exec_parse (s : State) :
    exec .parse s =
      .next (s.clearResult.recordResult (parseResponse s.rxLen.toNat s.rxByte s.excCrcChk)).markLegal := rfl

theorem busRead_legal {s : State} {off : Offset} {size : Nat} (h : accessLegal off size = true) :
    busRead s off size = .ok ((Reg.at? off.val).elim 0 s.readReg) := by
  rw [busRead, if_pos h]
  cases Reg.at? off.val <;> rfl

theorem busRead_illegal {s : State} {off : Offset} {size : Nat} (h : accessLegal off size = false) :
    busRead s off size = .error (.busError off) := by
  simp [busRead, h]

theorem busWrite_illegal {s : State} {off : Offset} {size : Nat} (v : Word) (h : accessLegal off size = false) :
    busWrite s off size v = .fault (.busError off) := by
  simp [busWrite, h]

/-- Everything a legal write can do (R53). -/
theorem busWrite_legal_cases {s : State} {off : Offset} {size : Nat} (v : Word) (h : accessLegal off size = true) :
    (Reg.at? off.val = some .ctrl ∧ busWrite s off size v = .next (s.writeCtrl v)) ∨
    (Reg.at? off.val = some .reqHdr ∧ busWrite s off size v = .next (s.writeReqHdr v)) ∨
    (Reg.at? off.val = some .reqArgs ∧ busWrite s off size v = .next (s.writeReqArgs v)) ∨
    (Reg.at? off.val = some .cmd ∧ ∃ i, decode v = .command i ∧ busWrite s off size v = exec i s) ∨
    (Reg.at? off.val = some .cmd ∧ (∃ w, decode v = .illegal w) ∧ busWrite s off size v = .next s.markIllegal) ∨
    (busWrite s off size v = .next s) := by
  rw [busWrite, if_pos h]
  split <;> rename_i hr
  · exact .inl ⟨hr, rfl⟩
  · cases hd : decode v with
    | command i => exact .inr (.inr (.inr (.inl ⟨hr, i, rfl, by simp [executeCommand, hd]⟩)))
    | illegal w => exact .inr (.inr (.inr (.inr (.inl ⟨hr, ⟨w, rfl⟩, by simp [executeCommand, hd, illegalCommand]⟩))))
  · exact .inr (.inl ⟨hr, rfl⟩)
  · exact .inr (.inr (.inl ⟨hr, rfl⟩))
  · exact .inr (.inr (.inr (.inr (.inr rfl))))

theorem runSteps_of_step {s t : State} (n : Nat) (h : step s = .next t) : runSteps (n + 1) s = runSteps n t := by
  simp [runSteps, h]

theorem runCommands_of_exec {i : Instr} {is : List Instr} {s t : State} (h : exec i s = .next t) :
    runCommands (i :: is) s = runCommands is t := by
  simp [runCommands, h]

/-- How one step changes the state apart from the port's own fields: `base` is the state with the event taken off. -/
inductive Effect (s base : State) : State → Prop where
  | unchanged : Effect s base base
  | reset : s.nextIsReset = true → Effect s base (State.reset.setPending base.pending)
  | writeCtrl (v : Word) : Effect s base (base.writeCtrl v)
  | writeReqHdr (v : Word) : Effect s base (base.writeReqHdr v)
  | writeReqArgs (v : Word) : Effect s base (base.writeReqArgs v)
  | illegal : (∃ off size v rest, s.pending = .access (.write off size v) :: rest ∧ Reg.at? off.val = some .cmd ∧
      accessLegal off size = true) → Effect s base base.markIllegal
  | command (i : Instr) (u : State) : s.nextCommand = some i → exec i base = .next u →
      (∃ off size v rest, s.pending = .access (.write off size v) :: rest ∧ Reg.at? off.val = some .cmd ∧
        accessLegal off size = true) → Effect s base u

/-- Everything a step can do: nothing with no event, and otherwise one effect on the state with the event taken off, followed
by the answer to an access. -/
theorem step_cases {s t : State} (h : step s = .next t) :
    (s.pending = [] ∧ t = s) ∨
    ∃ e rest u, s.pending = e :: rest ∧ Effect s (s.setPending rest) u ∧ (t = u ∨ ∃ r, t = u.respond r) := by
  unfold step at h
  split at h
  · rename_i hp
    cases h
    exact .inl ⟨hp, rfl⟩
  · rename_i e rest hp
    refine .inr ⟨e, rest, ?_⟩
    cases e with
    | reset running =>
      cases h
      exact ⟨_, hp, .reset (by simp [State.nextIsReset, hp]), .inl rfl⟩
    | access a =>
      cases a with
      | read off size =>
        simp only [performEvent, performAccess] at h
        split at h <;> cases h <;> exact ⟨_, hp, .unchanged, .inr ⟨_, rfl⟩⟩
      | write off size v =>
        simp only [performEvent, performAccess] at h
        cases hl : accessLegal off size with
        | false =>
          rw [busWrite_illegal v hl] at h
          cases h
          exact ⟨_, hp, .unchanged, .inr ⟨_, rfl⟩⟩
        | true =>
          rcases busWrite_legal_cases (s := s.setPending rest) v hl with
            ⟨_, hw⟩ | ⟨_, hw⟩ | ⟨_, hw⟩ | ⟨hr, i, hd, hw⟩ | ⟨hr, _, hw⟩ | hw <;> rw [hw] at h
          · cases h
            exact ⟨_, hp, .writeCtrl v, .inr ⟨_, rfl⟩⟩
          · cases h
            exact ⟨_, hp, .writeReqHdr v, .inr ⟨_, rfl⟩⟩
          · cases h
            exact ⟨_, hp, .writeReqArgs v, .inr ⟨_, rfl⟩⟩
          · have he : ∃ u, exec i (s.setPending rest) = .next u := by cases i <;> exact ⟨_, rfl⟩
            obtain ⟨u, hu⟩ := he
            rw [hu] at h
            cases h
            exact ⟨u, hp, .command i u (by simp [State.nextCommand, hp, hl, hr, hd]) hu ⟨_, _, _, _, hp, hr, hl⟩,
              .inr ⟨_, rfl⟩⟩
          · cases h
            exact ⟨_, hp, .illegal ⟨_, _, _, _, hp, hr, hl⟩, .inr ⟨_, rfl⟩⟩
          · cases h
            exact ⟨_, hp, .unchanged, .inr ⟨_, rfl⟩⟩

end Sys2Proof.Machine
end

