-- ==== Sys2Proof/Laws/Operands.lean ====
section
/-!
SUPPORT. Byte order: the two bytes of a half word and the half word of two bytes undo each other, in both orders; a span that
starts at 0 is the first bytes.
-/

namespace Sys2Proof.Machine

@[simp] theorem hiByte_beWord (a b : Byte) : hiByte (beWord a b) = a := by
  ext i hi
  have h : 8 + i < 16 := by omega
  have h' : i < 16 := by omega
  simp only [hiByte, beWord, zext16, BitVec.getElem_extractLsb', BitVec.getLsbD_or, BitVec.getLsbD_shiftLeft,
    BitVec.getLsbD_setWidth, BitVec.getLsbD_of_ge b (8 + i) (by omega)]
  simp [h, h', hi, BitVec.getLsbD_eq_getElem]

@[simp] theorem loByte_beWord (a b : Byte) : loByte (beWord a b) = b := by
  ext i hi
  simp only [loByte, beWord, zext16, BitVec.getElem_extractLsb', BitVec.getLsbD_or, BitVec.getLsbD_shiftLeft,
    BitVec.getLsbD_setWidth]
  simp [hi, BitVec.getLsbD_eq_getElem]
  omega

@[simp] theorem beWord_hiByte_loByte (w : Half) : beWord (hiByte w) (loByte w) = w := by
  ext i hi
  by_cases h : i < 8
  · simp [hiByte, loByte, beWord, zext16, h, hi, BitVec.getLsbD_eq_getElem]
  · have h1 : i - 8 < 8 := by omega
    have h2 : 8 + (i - 8) = i := by omega
    simp [hiByte, loByte, beWord, zext16, h, hi, h1, h2, BitVec.getLsbD_eq_getElem]

theorem leWord_eq_beWord (a b : Byte) : leWord a b = beWord b a := by
  simp [leWord, beWord, BitVec.or_comm]

@[simp] theorem loByte_leWord (a b : Byte) : loByte (leWord a b) = a := by simp [leWord_eq_beWord]

@[simp] theorem hiByte_leWord (a b : Byte) : hiByte (leWord a b) = b := by simp [leWord_eq_beWord]

@[simp] theorem leWord_loByte_hiByte (w : Half) : leWord (loByte w) (hiByte w) = w := by simp [leWord_eq_beWord]

theorem leWord_inj {a b c d : Byte} : leWord a b = leWord c d ↔ a = c ∧ b = d := by
  constructor
  · intro h
    exact ⟨by simpa using congrArg loByte h, by simpa using congrArg hiByte h⟩
  · rintro ⟨rfl, rfl⟩
    rfl

theorem span_zero (B : Nat → Byte) (n : Nat) : span B 0 n = (List.range n).map B := by
  simp [span, List.range_eq_range']

theorem span_congr {B C : Nat → Byte} {a b : Nat} (h : ∀ i, a ≤ i → i < b → B i = C i) : span B a b = span C a b := by
  unfold span
  apply List.map_congr_left
  intro i hi
  have := List.mem_range'_1.mp hi
  exact h i this.1 (by omega)

/-! Registers built by shifts, as their fields side by side. -/

theorem zext_eq_append {n m : Nat} (w : BitVec n) : w.setWidth (m + n) = 0#m ++ w := by
  apply BitVec.eq_of_toNat_eq
  simp only [BitVec.toNat_setWidth, BitVec.toNat_append, BitVec.toNat_zero, Nat.zero_shiftLeft, Nat.zero_or]
  exact Nat.mod_eq_of_lt (Nat.lt_of_lt_of_le w.isLt (Nat.pow_le_pow_right (by omega) (by omega)))

theorem packBytes_append (hi lo : Byte) : (hi.setWidth 32 <<< 8) ||| lo.setWidth 32 = 0#16 ++ hi ++ lo := by
  apply BitVec.eq_of_getLsbD_eq
  intro i _
  simp only [BitVec.getLsbD_or, BitVec.getLsbD_shiftLeft, BitVec.getLsbD_setWidth, BitVec.getLsbD_append]
  interval_cases i <;> simp

theorem packHalves_append (hi lo : Half) : (hi.setWidth 32 <<< 16) ||| lo.setWidth 32 = hi ++ lo := by
  apply BitVec.eq_of_getLsbD_eq
  intro i _
  simp only [BitVec.getLsbD_or, BitVec.getLsbD_shiftLeft, BitVec.getLsbD_setWidth, BitVec.getLsbD_append]
  interval_cases i <;> simp

theorem packInfo_append (n f a : Byte) :
    (n.setWidth 32 <<< 16) ||| (f.setWidth 32 <<< 8) ||| a.setWidth 32 = 0#8 ++ n ++ f ++ a := by
  apply BitVec.eq_of_getLsbD_eq
  intro i _
  simp only [BitVec.getLsbD_or, BitVec.getLsbD_shiftLeft, BitVec.getLsbD_setWidth, BitVec.getLsbD_append]
  interval_cases i <;> simp

theorem packWord_append (b0 b1 b2 b3 : Byte) : packWord b0 b1 b2 b3 = b3 ++ b2 ++ b1 ++ b0 := by
  apply BitVec.eq_of_getLsbD_eq
  intro i _
  simp only [packWord, BitVec.getLsbD_or, BitVec.getLsbD_shiftLeft, BitVec.getLsbD_setWidth, BitVec.getLsbD_append]
  interval_cases i <;> simp

end Sys2Proof.Machine
end

