-- ==== Sys2Proof/Laws/Crc.lean ====
section
/-!
SUPPORT. The CRC functions: the two cases of one shift, and how crc16 goes over a concatenation.
-/

namespace Sys2Proof.Machine

theorem lfsrStep_odd {c : Half} (h : c &&& 0x0001 ≠ 0) : lfsrStep c = (c >>> 1) ^^^ 0xA001 := if_pos h

theorem lfsrStep_even {c : Half} (h : c &&& 0x0001 = 0) : lfsrStep c = c >>> 1 := if_neg (not_not.mpr h)

/-- One shift, bit by bit: the bit above, and the feedback where POLY has a 1 (R100). -/
theorem lfsrStep_getLsbD (c : Half) (i : Nat) :
    (lfsrStep c).getLsbD i = (c.getLsbD (i + 1) ^^ (c.getLsbD 0 && (0xA001#16).getLsbD i)) := by
  have h0 : (c &&& 0x0001 = 0) ↔ c.getLsbD 0 = false := by
    constructor
    · intro h
      simpa using congrArg (·.getLsbD 0) h
    · intro h
      ext i hi
      cases i with
      | zero => simpa [BitVec.getLsbD_eq_getElem] using h
      | succ i => simp
  by_cases h : c &&& 0x0001 = 0
  · rw [lfsrStep_even h, h0.1 h, BitVec.getLsbD_ushiftRight, Nat.add_comm 1 i]
    simp
  · have h1 : c.getLsbD 0 = true := by
      rw [h0] at h
      simpa using h
    rw [lfsrStep_odd h, h1, BitVec.getLsbD_xor, BitVec.getLsbD_ushiftRight, Nat.add_comm 1 i]
    simp

/-- The shift loses nothing: the bit that leaves comes back at the top. -/
theorem lfsrStep_injective : Function.Injective lfsrStep := by
  intro c d h
  have hb : ∀ i, (lfsrStep c).getLsbD i = (lfsrStep d).getLsbD i := fun i => by rw [h]
  simp only [lfsrStep_getLsbD] at hb
  have h0 : c.getLsbD 0 = d.getLsbD 0 := by simpa using hb 15
  apply BitVec.eq_of_getLsbD_eq
  intro i _
  cases i with
  | zero => exact h0
  | succ i => exact Bool.xor_left_inj.mp (h0 ▸ hb i)

theorem crcByte_eq (c : Half) (b : Byte) : crcByte c b = lfsrStep^[8] (c ^^^ b.setWidth 16) := rfl

/-- Equal accumulators after a byte were equal before it. -/
theorem crcByte_left_injective (b : Byte) : Function.Injective (crcByte · b) := by
  intro c d h
  simpa using lfsrStep_injective.iterate 8 h

/-- Equal accumulators after one byte each, from one accumulator, came from equal bytes. -/
theorem crcByte_right_injective (c : Half) : Function.Injective (crcByte c) := by
  intro a b h
  have h1 : zext16 a = zext16 b := by simpa using lfsrStep_injective.iterate 8 h
  have h2 := congrArg (BitVec.setWidth 8) h1
  simpa [zext16] using h2

/-- The accumulator after a sequence is where the next one starts. -/
theorem crc16_append (xs ys : List Byte) : crc16 (xs ++ ys) = ys.foldl crcByte (crc16 xs) := by
  simp [crc16, List.foldl_append]

theorem crc16_concat (xs : List Byte) (b : Byte) : crc16 (xs ++ [b]) = crcByte (crc16 xs) b := by
  simp [crc16_append]

end Sys2Proof.Machine
end

