-- ==== Sys2Proof/Laws/Invariants.lean ====
section
/-!
SUPPORT. The invariants of spec/10_state.md R40 and R153 depend only on the result registers and on the buffer: a change
elsewhere keeps them, and clearing the result establishes their parser half.
-/

namespace Sys2Proof.Machine

theorem ResultWords.congr {s t : State} {status info errA errB : Word} {regs : List Half}
    (h : ResultWords s status info errA errB regs) (hr : ∀ r : Reg, r.isResult = true → t.readReg r = s.readReg r) :
    ResultWords t status info errA errB regs :=
  ⟨(hr _ rfl).trans h.status, (hr _ rfl).trans h.info, (hr _ rfl).trans h.errA, (hr _ rfl).trans h.errB,
    fun i => (hr _ rfl).trans (h.regs i)⟩

theorem holdsResult_congr {s t : State} {p : ParseResult} (h : holdsResult p s)
    (hr : ∀ r : Reg, r.isResult = true → t.readReg r = s.readReg r) : holdsResult p t := by
  cases p <;> exact ResultWords.congr h hr

theorem RegisterInvariant.congr {s t : State} (h : RegisterInvariant s)
    (hr : ∀ r : Reg, r.isResult || r.isRequestResult → t.readReg r = s.readReg r) (hn : t.rspNregs = s.rspNregs) :
    RegisterInvariant t := by
  obtain ⟨a, b, c, d, e⟩ := h
  constructor
  · rw [hr _ rfl, hr _ rfl]; intro h; refine ⟨(a h).1, fun i => ?_⟩; rw [hr _ rfl]; exact (a h).2 i
  · rw [hr _ rfl, hr _ rfl, hr _ rfl]; exact b
  · rw [hr _ rfl, hn]; intro h; refine ⟨(c h).1, fun i hi => ?_⟩; rw [hr _ rfl]; exact (c h).2 i hi
  · rw [hr _ rfl, hr _ rfl, hr _ rfl]; exact d
  · rw [hr _ rfl, hr _ rfl, hr _ rfl]; exact e

theorem RegisterInvariant.of_cleared {s t : State} (h : RegisterInvariant s)
    (hr : ∀ r : Reg, r.isRequestResult = true → t.readReg r = s.readReg r) (hc : resultCleared t) :
    RegisterInvariant t := by
  obtain ⟨-, -, -, d, e⟩ := h
  constructor
  · intro _; exact ⟨hc _ rfl, fun i => hc _ rfl⟩
  · intro _; exact ⟨hc _ rfl, hc _ rfl⟩
  · intro h; rw [hc _ rfl] at h; exact absurd h (by decide)
  · rw [hr _ rfl, hr _ rfl, hr _ rfl]; exact d
  · rw [hr _ rfl, hr _ rfl, hr _ rfl]; exact e

theorem ResultIsOfBuffer.congr {s t : State} (h : ResultIsOfBuffer s)
    (hr : ∀ r : Reg, r.isResult = true → t.readReg r = s.readReg r) (h1 : t.rspResult = s.rspResult)
    (h2 : t.rxLen = s.rxLen) (h3 : t.rxByte = s.rxByte) : ResultIsOfBuffer t := by
  rcases h with ⟨a, b⟩ | ⟨x, a⟩
  · exact .inl ⟨h1.trans a, fun r hh => (hr r hh).trans (b r hh)⟩
  · exact .inr ⟨x, by rw [h2, h3]; exact holdsResult_congr a hr⟩

end Sys2Proof.Machine
end

