-- ==== Sys2Proof/Laws/PerInstr.lean ====
section
/-!
SUPPORT. The family EncodedWord: the word of every command is legal, that is, its RSVD is zero and its OPCODE is an assigned
one (spec/30_encoding.md R71, R72, R76).
-/

/-- The assembled word passes both checks of WellFormed.word (R71, R75). -/
def Sys2Proof.Laws.EncodedWord.Statement (i : Sys2Proof.Instr) : Prop :=
  Sys2Proof.WellFormed.word (Sys2Proof.encode i) = true

theorem Sys2Proof.Laws.EncodedWord.nop : Sys2Proof.Laws.EncodedWord.Statement .nop := by
  unfold Sys2Proof.Laws.EncodedWord.Statement; decide

theorem Sys2Proof.Laws.EncodedWord.crcInit : Sys2Proof.Laws.EncodedWord.Statement .crcInit := by
  unfold Sys2Proof.Laws.EncodedWord.Statement; decide

theorem Sys2Proof.Laws.EncodedWord.crcByte (b : Sys2Proof.Byte) :
    Sys2Proof.Laws.EncodedWord.Statement (.crcByte b) := by
  unfold Sys2Proof.Laws.EncodedWord.Statement; revert b; decide +kernel

theorem Sys2Proof.Laws.EncodedWord.reqBuild : Sys2Proof.Laws.EncodedWord.Statement .reqBuild := by
  unfold Sys2Proof.Laws.EncodedWord.Statement; decide

theorem Sys2Proof.Laws.EncodedWord.rxClear : Sys2Proof.Laws.EncodedWord.Statement .rxClear := by
  unfold Sys2Proof.Laws.EncodedWord.Statement; decide

theorem Sys2Proof.Laws.EncodedWord.rxPush (b : Sys2Proof.Byte) :
    Sys2Proof.Laws.EncodedWord.Statement (.rxPush b) := by
  unfold Sys2Proof.Laws.EncodedWord.Statement; revert b; decide +kernel

theorem Sys2Proof.Laws.EncodedWord.parse : Sys2Proof.Laws.EncodedWord.Statement .parse := by
  unfold Sys2Proof.Laws.EncodedWord.Statement; decide
end

