-- ==== Sys2Proof/Laws/Response.lean ====
section
/-!
SUPPORT. The pipeline and the result registers: which stages a frame goes to, the parity test of stage 5, and what a stored
register list reads back as.
-/

namespace Sys2Proof.Machine

/-- A frame of 5 bytes or more with bit 7 of byte 1 clear goes to stages 3 to 5. -/
theorem parseResponse_normal {n : Nat} {B : Nat → Byte} (x : Bool) (h : 5 ≤ n) (hb : B 1 &&& 0x80 = 0) :
    parseResponse n B x = normalStages n B := by
  rw [parseResponse, if_neg (by simp only [minFrame]; omega), if_neg (not_not.mpr hb)]

/-- A frame of 5 bytes or more with bit 7 of byte 1 set ends in stage 2. -/
theorem parseResponse_exception {n : Nat} {B : Nat → Byte} (x : Bool) (h : 5 ≤ n) (hb : B 1 &&& 0x80 ≠ 0) :
    parseResponse n B x = exceptionStage n B x := by
  rw [parseResponse, if_neg (by simp only [minFrame]; omega), if_pos hb]

/-- Everything stages 3 to 5 can answer. -/
theorem normalStages_cases (n : Nat) (B : Nat → Byte) :
    (n ≠ 5 + (B 2).toNat ∧ normalStages n B = .lengthMismatch (5 + (B 2).toNat) n) ∨
    (n = 5 + (B 2).toNat ∧ leWord (B (n - 2)) (B (n - 1)) ≠ crc16 (span B 0 (n - 2)) ∧
      normalStages n B = .checksumMismatch (leWord (B (n - 2)) (B (n - 1))) (crc16 (span B 0 (n - 2)))) ∨
    (n = 5 + (B 2).toNat ∧ leWord (B (n - 2)) (B (n - 1)) = crc16 (span B 0 (n - 2)) ∧
      normalStages n B = decodeStage B) := by
  unfold normalStages
  by_cases h : n = 5 + (B 2).toNat
  · by_cases hc : leWord (B (n - 2)) (B (n - 1)) = crc16 (span B 0 (n - 2))
    · exact .inr (.inr ⟨h, hc, by rw [if_neg (not_not.mpr h)]; exact if_neg (not_not.mpr hc)⟩)
    · exact .inr (.inl ⟨h, hc, by rw [if_neg (not_not.mpr h)]; exact if_pos hc⟩)
  · exact .inl ⟨h, if_pos h⟩

/-- The parity test of stage 5 on the number (R148). -/
theorem oddByte_iff (b : Byte) : b &&& 1 ≠ 0 ↔ b.toNat % 2 = 1 := by
  have h : (b &&& 1).toNat = b.toNat % 2 := by simp [BitVec.toNat_and, Nat.and_one_is_mod]
  rw [ne_eq, ← BitVec.toNat_inj, h]
  simp

/-- Everything stage 5 can answer. -/
theorem decodeStage_cases (B : Nat → Byte) :
    ((B 2).toNat % 2 = 1 ∧ decodeStage B = .malformedData) ∨
    ((B 2).toNat % 2 = 0 ∧ decodeStage B = .ok (B 0) (B 1)
      ((List.range ((B 2).toNat / 2)).map fun j => beWord (B (3 + 2 * j)) (B (4 + 2 * j)))) := by
  unfold decodeStage
  by_cases h : (B 2) &&& 1 = 0
  · exact .inr ⟨by have := (oddByte_iff (B 2)).not.mp (not_not.mpr h); omega, if_neg (not_not.mpr h)⟩
  · exact .inl ⟨(oddByte_iff (B 2)).mp h, if_pos h⟩

/-- A stored register list reads back, and beyond it the old value stays (R152). -/
@[simp] theorem storeRegs_getElem (regs : List Half) (old : Vector Half Config.maxRegs) (i : Fin Config.maxRegs) :
    (storeRegs regs old)[i] = regs.getD i.val old[i] := by
  simp [storeRegs]

/-- After `clear_result()` every result register reads 0 (R153). -/
theorem readReg_clearResult_result (s : State) {r : Reg} (h : r.isResult = true) : s.clearResult.readReg r = 0 := by
  cases r with
  | rspReg i => simp [State.readReg]
  | rspInfo => simp [State.readReg]
  | _ => first | exact Bool.noConfusion h | rfl

end Sys2Proof.Machine
end

