-- ==== Sys2Proof/Tests/Slice0.lean ====
section
/-!
SUPPORT. The model's own tests. Expected values come from spec/95_test_vectors.md (V-… and W… rows, named at each test) and
from the encodings of spec/30_encoding.md, never from the model. Then, for each obligation with hypotheses, a witness that
meets them together.
-/

namespace Sys2Proof.Tests

-- One test after another: checked side by side, their threads' stacks take more memory than the check has.
set_option Elab.async false

open Sys2Proof Sys2Proof.Machine

/-! ## Helpers -/

/-- What a register reads after a step or a command that went on. -/
def reads (o : Host.Outcome State Fault Refusal) (r : Reg) : Option Word :=
  match o with
  | .next t => some (t.readReg r)
  | _ => none

/-- The bus answer after a step that went on. -/
def answers (o : Host.Outcome State Fault Refusal) : Option BusResponse :=
  match o with
  | .next t => t.response
  | _ => none

/-- The reset state with a received frame of fewer than 0x10000 bytes. -/
def loaded (x : Bool) (bs : List Byte) : State :=
  { State.reset with
    excCrcChk := x, rxLen := BitVec.ofNat 16 bs.length, rxBuf := Vector.ofFn fun i => bs.getD i.val 0 }

/-- The reset state with one write to CMD waiting. -/
def issuing (v : Word) : State := State.reset.setPending [.access (.write 0x004 4 v)]

/-- V-RSP-20's frame. -/
def okFrame : List Byte := [0x01, 0x03, 0x02, 0x12, 0x34, 0xB5, 0x33]

/-- V-RSP-20 after its PARSE, written out from the row. -/
def parsed : State :=
  { loaded false okFrame with
    rspResult := .ok, rspAddr := 1, rspFunc := 3, rspNregs := 1
    rspReg := (Vector.replicate Config.maxRegs 0).set 0 0x1234 }

/-! ## Well-formedness: one ill-formed word per check, refused -/

theorem test_wf_rsvd_refused : WellFormed.rsvdZero 0x00010002 = false ∧ WellFormed.word 0x00010002 = false := by decide
theorem test_wf_opcode_refused : WellFormed.opcodeAssigned 0x00000007 = false ∧ WellFormed.word 0x00000007 = false := by
  decide
theorem test_wf_last_opcode_accepted : WellFormed.word 0x0000FF06 = true := by decide
theorem test_access_width_refused : accessLegal 0x00C 2 = false := by decide
theorem test_access_misaligned_refused : accessLegal 0x002 4 = false := by decide
theorem test_access_accepted : accessLegal 0x00C 4 = true := by decide

/-! ## Decoding: words written out bit by bit from R70 and R72 -/

theorem test_decode_nop : decode 0b00000000000000001010101100000000 = .command .nop := by decide
theorem test_decode_crcInit : decode 0b00000000000000000101010100000001 = .command .crcInit := by decide
theorem test_decode_crcByte : decode 0b00000000000000000000101000000010 = .command (.crcByte 0x0A) := by decide
theorem test_decode_reqBuild : decode 0b00000000000000000000000000000011 = .command .reqBuild := by decide
theorem test_decode_rxClear : decode 0b00000000000000000000000000000100 = .command .rxClear := by decide
theorem test_decode_rxPush : decode 0b00000000000000001111000100000101 = .command (.rxPush 0xF1) := by decide
theorem test_decode_parse : decode 0b00000000000000000000000000000110 = .command .parse := by decide
/-- V-CTL-01 to V-CTL-04. -/
theorem test_decode_illegal :
    decode 0x00010002 = .illegal (.rsvdNonzero 0x0001) ∧ decode 0x00000007 = .illegal (.reservedOpcode 0x07) ∧
    decode 0x000000FF = .illegal (.reservedOpcode 0xFF) ∧ decode 0xFFFFFFFF = .illegal (.rsvdNonzero 0xFFFF) := by decide
/-- 95_test_vectors.md P3's words. -/
theorem test_encode_words :
    encode .rxClear = 0x00000004 ∧ encode (.rxPush 0x83) = 0x00008305 ∧ encode .parse = 0x00000006 ∧
    encode (.crcByte 0x0A) = 0x00000A02 := by decide
theorem test_table_word : decodeTableWord 32 0x00008305 = some (.rxPush 0x83) ∧ decodeTableWord 32 0x00010005 = none := by
  decide
/-- The word a table row gives runs as the very next step. -/
theorem test_withFetchWord : reads (step (State.reset.withFetchWord 32 0x00000102)) .crc = some 0x0000807E := by
  decide +kernel

/-! ## The CRC unit -/

/-- V-CRC-01 to V-CRC-06. -/
theorem test_lfsrStep :
    [0x0000, 0x0001, 0x0002, 0xFFFF, 0x8000, 0xA001].map lfsrStep = [0x0000, 0xA001, 0x0001, 0xDFFE, 0x4000, 0xF001] := by
  decide +kernel
/-- V-CRC-07, V-CRC-08a, 08b, 08d, 08e. -/
theorem test_crcByte :
    crcByte 0xFFFF 0x01 = 0x807E ∧ crcByte 0xFFFF 0x00 = 0x40BF ∧ crcByte 0xFFFF 0xFF = 0x00FF ∧
    crcByte 0x0000 0x01 = 0xC0C1 ∧ crcByte 0x1234 0x56 = 0xE993 := by decide +kernel
/-- V-CRC-09, V-CRC-10f, V-CRC-12, V-CRC-14. -/
theorem test_crc16 :
    crc16 [0x31, 0x32, 0x33, 0x34, 0x35, 0x36, 0x37, 0x38, 0x39] = 0x4B37 ∧ crc16 [0xFF, 0xFF] = 0x0000 ∧
    crc16 [0x01, 0x83, 0x02, 0xC0, 0xF1] = 0x0000 ∧ crc16 [0x01, 0x03, 0x00, 0x00, 0x00, 0x0A] = 0xCDC5 := by
  decide +kernel
/-- V-CMD-03. -/
theorem test_exec_crcInit : reads (exec .crcInit { State.reset with crc := 0x807E }) .crc = some 0x0000FFFF := by
  decide +kernel
/-- V-CMD-02 and the third byte of V-CMD-04. -/
theorem test_exec_crcByte :
    reads (exec (.crcByte 0x01) State.reset) .crc = some 0x0000807E ∧
    reads (exec (.crcByte 0x00) { State.reset with crc := 0x2140 }) .crc = some 0x0000F020 := by decide +kernel

/-! ## The request framer -/

/-- V-REQ-02. -/
theorem test_exec_reqBuild :
    let s := { State.reset with slave := 0x11, func := 0x03, start := 0x006B, count := 0x0003 }
    [Reg.reqFrame0, .reqFrame1, .reqStatus].map (reads (exec .reqBuild s)) =
      [some 0x6B000311, some 0x87760300, some 1] := by decide +kernel
/-- V-REQ-06 after V-REQ-01. -/
theorem test_exec_reqBuild_range :
    let s := { State.reset with
      slave := 0x01, func := 0x03, reqResult := .ok, reqFrame0 := 0x00000301, reqFrame1 := 0xCDC50A00 }
    [Reg.reqFrame0, .reqFrame1, .reqStatus].map (reads (exec .reqBuild s)) = [some 0, some 0, some 2] := by
  decide +kernel

/-! ## The response parser -/

/-- V-RSP-05 to V-RSP-08, then V-RSP-09 to V-RSP-11. -/
theorem test_parse_exceptions :
    parseResponse 4 (frameAt [0x01, 0x83, 0x02, 0xC0]) false = .tooShort ∧
    parseResponse 5 (frameAt [0x01, 0x83, 0x02, 0x00, 0x00]) false = .deviceException 3 2 ∧
    parseResponse 6 (frameAt [0x01, 0x83, 0x02, 0xC0, 0xF1, 0x55]) false = .deviceException 3 2 ∧
    parseResponse 5 (frameAt [0x01, 0x83, 0x02, 0xC0, 0xF1]) true = .deviceException 3 2 ∧
    parseResponse 5 (frameAt [0x01, 0x83, 0x02, 0x00, 0x00]) true = .checksumMismatch 0x0000 0xF1C0 ∧
    parseResponse 6 (frameAt [0x01, 0x83, 0x02, 0xC0, 0xF1, 0x55]) true = .lengthMismatch 5 6 := by decide +kernel
/-- V-RSP-14, V-RSP-16 to V-RSP-19, V-RSP-21, V-RSP-22. -/
theorem test_parse_normal :
    parseResponse 5 (frameAt [0x01, 0x03, 0x00, 0x20, 0xF0]) false = .ok 1 3 [] ∧
    parseResponse 6 (frameAt [0x01, 0x03, 0x01, 0xAB, 0xB1, 0xF7]) false = .malformedData ∧
    parseResponse 6 (frameAt [0x01, 0x03, 0x01, 0xAB, 0x00, 0x00]) false = .checksumMismatch 0x0000 0xF7B1 ∧
    parseResponse 6 (frameAt [0x01, 0x03, 0x02, 0x12, 0x70, 0xB5]) false = .lengthMismatch 7 6 ∧
    parseResponse 8 (frameAt [0x01, 0x03, 0x02, 0x12, 0x34, 0x56, 0x72, 0x89]) false = .lengthMismatch 7 8 ∧
    parseResponse 9 (frameAt [0x01, 0x03, 0x04, 0xFF, 0xFF, 0x80, 0x00, 0x9B, 0xD7]) false = .ok 1 3 [0xFFFF, 0x8000] ∧
    parseResponse 7 (frameAt [0x01, 0x03, 0x02, 0x12, 0x34, 0xB5, 0x32]) false = .checksumMismatch 0x32B5 0x33B5 := by
  decide +kernel
/-- V-RSP-25: one byte more than the longest frame of consistent length; V-RSP-28: the saturated length. -/
theorem test_parse_long :
    parseResponse 261 (frameAt [0x07, 0x03, 0xFF]) false = .lengthMismatch 260 261 ∧
    parseResponse 0xFFFF (frameAt [0x01, 0x83, 0x04]) true = .lengthMismatch 5 0xFFFF := by decide +kernel
/-- V-RSP-20: status, info, payload and data of an accepted frame. -/
theorem test_exec_parse_ok :
    [Reg.rspStatus, .rspInfo, .rspErrA, .rspErrB, .rspReg 0, .rspReg 1].map (reads (exec .parse (loaded false okFrame))) =
      [some 1, some 0x00010301, some 0, some 0, some 0x1234, some 0] := by decide +kernel
/-- V-RSP-10 on top of the old result of V-RSP-20: the old result goes. -/
theorem test_exec_parse_strict :
    let s := { parsed with excCrcChk := true, rxLen := 5, rxBuf := (loaded true [0x01, 0x83, 0x02, 0x00, 0x00]).rxBuf }
    [Reg.rspStatus, .rspInfo, .rspErrA, .rspErrB, .rspReg 0].map (reads (exec .parse s)) =
      [some 5, some 0, some 0x0000, some 0xF1C0, some 0] := by decide +kernel
/-- R150: RX_CLEAR after V-RSP-20. -/
theorem test_exec_rxClear :
    [Reg.rxLen, .rspStatus, .rspInfo, .rspReg 0].map (reads (exec .rxClear parsed)) =
      [some 0, some 0, some 0, some 0] := by decide +kernel
/-- V-RSP-31. -/
theorem test_exec_rxPush :
    [Reg.rxLen, .rspStatus, .rspInfo, .rspReg 0].map (reads (exec (.rxPush 0x00) parsed)) =
      [some 8, some 0, some 0, some 0] := by decide +kernel
/-- R151: the count saturates. -/
theorem test_exec_rxPush_saturates :
    reads (exec (.rxPush 0xAA) { State.reset with rxLen := 0xFFFF }) .rxLen = some 0x0000FFFF := by decide +kernel

/-! ## Control and bus -/

/-- V-CTL-05. -/
theorem test_exec_nop : reads (step { issuing 0x0000AB00 with illegal := true }) .cmdStatus = some 0 := by decide +kernel
/-- V-CTL-01. -/
theorem test_step_illegal :
    let s := { issuing 0x00010002 with crc := 0x807E }
    reads (step s) .cmdStatus = some 1 ∧ reads (step s) .crc = some 0x807E ∧ answers (step s) = some .written := by
  decide +kernel
/-- V-BUS-01, V-BUS-02. -/
theorem test_bus_errors :
    answers (step (State.reset.setPending [.access (.read 0x002 4)])) = some (.busError 0x002) ∧
    answers (step (State.reset.setPending [.access (.write 0x00C 2 0x1234)])) = some (.busError 0x00C) := by
  decide +kernel
/-- V-BUS-03, V-BUS-07, V-BUS-08. -/
theorem test_bus_reads :
    busRead State.reset 0x040 4 = .ok 0 ∧ busRead State.reset 0x1FC 4 = .ok 0 ∧ busRead State.reset 0x004 4 = .ok 0 ∧
    busRead State.reset 0x100 4 = .ok 0 := ⟨rfl, rfl, rfl, rfl⟩
/-- V-BUS-04 to V-BUS-06. -/
theorem test_bus_writes :
    reads (busWrite State.reset 0x00C 4 0x1234) .crc = some 0x0000FFFF ∧
    reads (busWrite State.reset 0x000 4 0xFFFFFFFF) .ctrl = some 0x00000001 ∧
    reads (busWrite State.reset 0x010 4 0xDEADBEEF) .reqHdr = some 0x0000BEEF := by decide +kernel
/-- A read of RSP_REG[0], a write of REQ_ARGS and an ignored write, each as a step (V-RSP-20; R53; V-BUS-04). -/
theorem test_step_accesses :
    answers (step (parsed.setPending [.access (.read 0x100 4)])) = some (.data 0x00001234) ∧
    reads (step (State.reset.setPending [.access (.write 0x014 4 0x000A0000)])) .reqArgs = some 0x000A0000 ∧
    (let s := State.reset.setPending [.access (.write 0x00C 4 0x1234)]
     reads (step s) .crc = some 0x0000FFFF ∧ answers (step s) = some .written) := by decide +kernel
/-- R55, I10 and D2: RSP_REG[62] is the last register in the window, and 0x1FC reads 0 whatever RSP_REG[63] holds. -/
theorem test_window_end :
    let s := { State.reset with rspReg := Vector.replicate Config.maxRegs 0xFFFF }
    answers (step (s.setPending [.access (.read 0x1F8 4)])) = some (.data 0x0000FFFF) ∧
    answers (step (s.setPending [.access (.read 0x1FC 4)])) = some (.data 0x00000000) ∧ offsetInWindow 0x200 = none := by
  decide +kernel
/-- R77: SET_REQ's two words, from V-REQ-01. -/
theorem test_setReq : (Asm.setReq 0x01 0x03 0x0000 0x000A).accesses =
    [.write 0x010 4 0x00000301, .write 0x014 4 0x000A0000] := by decide +kernel

/-! ## Witnesses of the obligations' hypotheses -/

theorem witness_DecodeEncodeRoundTrip : (Instr.crcByte 0xFF).wellFormed = true ∧ Instr.parse.wellFormed = true := by decide

theorem witness_DecodeFollowsOpcodeMap :
    let j : Fin opcodeMap.length := ⟨5, by decide⟩
    opcodeMap[j].fits 0x0000FF05 = true := by decide

theorem witness_DataFieldIgnoredWithoutOperand :
    ([0x00, 0x01, 0x03, 0x04, 0x06] : List Word).all
      (fun op => op &&& 0xFFFF00FF == op && (op ||| 0x0000FF00) &&& 0xFFFF00FF == op) = true := by decide

theorem witness_ResetWinsOverEverything :
    (parsed.setPending [.reset (some (cmdWrite .parse)), .reset none]).pending =
      .reset (some (cmdWrite .parse)) :: [.reset none] := rfl

theorem witness_BusErrorChangesNothing :
    (∃ a, a = BusAccess.read 0x002 4 ∧ (0x002 : Offset).val % 4 ≠ 0 ∧
      (parsed.setPending [.access a]).pending = .access a :: []) ∧
    (∃ a, a = BusAccess.write 0x00C 2 0x1234 ∧ (2 : Nat) ≠ 4 ∧
      (parsed.setPending [.access a]).pending = .access a :: []) :=
  ⟨⟨_, rfl, by decide, rfl⟩, ⟨_, rfl, by decide, rfl⟩⟩

theorem witness_ResetRegisterValues :
    (0x00C : Offset).val = Reg.crc.offset ∧ (0x1F8 : Offset).val = (Reg.rspReg 62).offset := by decide

theorem witness_ReadReturnsRegisterFields :
    (0x100 : Offset).val = 0x100 + 4 * (0 : Fin 127).val ∧ (0 : Fin 127).val ≠ 63 ∧
    (0x1F8 : Offset).val = 0x100 + 4 * (62 : Fin 127).val ∧ (62 : Fin 127).val ≠ 63 ∧
    ((0x038 : Offset).val % 4 = 0 ∧ 0x038 ≤ (0x038 : Offset).val ∧ (0x038 : Offset).val ≤ 0x0FC) ∧
    ((0x0FC : Offset).val % 4 = 0 ∧ 0x038 ≤ (0x0FC : Offset).val ∧ (0x0FC : Offset).val ≤ 0x0FC) ∧
    ((2 : Nat) ≠ 4 ∨ (0x000 : Offset).val % 4 ≠ 0) ∧ ((4 : Nat) ≠ 4 ∨ (0x001 : Offset).val % 4 ≠ 0) := by decide

theorem witness_WriteReachesItsRegister :
    ((0x008 : Offset).val % 4 = 0 ∧ (0x008 : Offset).val ∉ [0x000, 0x004, 0x010, 0x014]) ∧
    ((0x1FC : Offset).val % 4 = 0 ∧ (0x1FC : Offset).val ∉ [0x000, 0x004, 0x010, 0x014]) ∧
    ((2 : Nat) ≠ 4 ∨ (0x004 : Offset).val % 4 ≠ 0) ∧ ((4 : Nat) ≠ 4 ∨ (0x1FF : Offset).val % 4 ≠ 0) := by decide

theorem witness_ReadOnlyWritesIgnored :
    (0x008 : Offset).val ∈ [0x008, 0x00C, 0x018, 0x01C, 0x020, 0x024, 0x028, 0x02C, 0x030, 0x034] ∧
    (0x034 : Offset).val ∈ [0x008, 0x00C, 0x018, 0x01C, 0x020, 0x024, 0x028, 0x02C, 0x030, 0x034] ∧
    (∃ i, i ≤ 126 ∧ (0x100 : Offset).val = 0x100 + 4 * i) ∧ (∃ i, i ≤ 126 ∧ (0x1F8 : Offset).val = 0x100 + 4 * i) :=
  ⟨by decide, by decide, ⟨0, by decide⟩, ⟨62, by decide⟩⟩

/-- A legal read that is repeated, and the two results of busRead. -/
theorem witness_ReadsHaveNoSideEffect :
    (parsed.setPending [.access (.read 0x028 4), .access (.read 0x028 4)]).pending =
      .access (.read 0x028 4) :: [.access (.read 0x028 4)] ∧
    busRead parsed 0x028 4 = .ok 1 ∧ busRead parsed 0x028 1 = .error (.busError 0x028) := ⟨rfl, rfl, rfl⟩

theorem witness_StepRunsDecodedCommand :
    (issuing 0x00000105).pending = .access (.write 0x004 4 0x00000105) :: [] ∧
    decode 0x00000105 = .command (.rxPush 0x01) ∧
    (issuing 0x00010002).pending = .access (.write 0x004 4 0x00010002) :: [] ∧
    decode 0x00010002 = .illegal (.rsvdNonzero 0x0001) := ⟨rfl, by decide, rfl, by decide⟩

/-- Each disjunct at the ends of its range. -/
theorem witness_IllegalWordSetsIllegalOnly :
    (0x00000007#32).extractLsb' 16 16 = 0#16 ∧ 7 ≤ ((0x00000007#32).extractLsb' 0 8).toNat ∧
    7 ≤ ((0x000000FF#32).extractLsb' 0 8).toNat ∧ (0x00010000#32).extractLsb' 16 16 ≠ 0#16 ∧
    (0xFFFF0006#32).extractLsb' 16 16 ≠ 0#16 := by decide

theorem witness_NoAutonomousStep : parsed.pending = [] := rfl

theorem witness_LaterEventsChangeNothingEarlier :
    ∃ t, runSteps 1 (parsed.setPending (asmEvents [.cmd .nop])) = .next t := ⟨_, rfl⟩

theorem witness_LfsrStepBitByBit : (0x8001 : Half).getLsbD 0 = true ∧ (0x8000 : Half).getLsbD 0 = false := by decide

/-- The words that select each command, with DATA at both ends (the first clause of the commands' statements). -/
theorem witness_command_words :
    (0x0000FF00#32) &&& 0xFFFF00FF = 0x00000000 ∧ (0x0000FF01#32) &&& 0xFFFF00FF = 0x00000001 ∧
    (0x0000FF02#32) &&& 0xFFFF00FF = 0x00000002 ∧ (0x0000FF03#32) &&& 0xFFFF00FF = 0x00000003 ∧
    (0x0000FF04#32) &&& 0xFFFF00FF = 0x00000004 ∧ (0x00000005#32) &&& 0xFFFF00FF = 0x00000005 ∧
    (0x00000006#32) &&& 0xFFFF00FF = 0x00000006 := by decide

theorem witness_CrcRegisterComputesCrc16 : Instr.crcInit ∉ [.crcByte 0x01, .parse, .crcByte 0x03, .rxPush 0x07] := by
  decide

theorem witness_CrcOfComputesCrc16 :
    (parsed.setPending (asmEvents [.crcOf [0x01, 0x03]])).pending = asmEvents [.crcOf [0x01, 0x03]] := rfl

theorem witness_CrcDetectsOneChangedByte : (0x00 : Byte) ≠ 0x80 := by decide

theorem witness_ReqBuildFramesRequest :
    { State.reset with count := 0x0001 }.count ≠ 0 ∧ { State.reset with count := 0xFFFF }.count ≠ 0 := by decide

theorem witness_ReqBuildRangeErrorFailsClosed : parsed.count = 0 := rfl

/-- V-REQ-01's frame. -/
theorem witness_RequestLayout :
    buildRequest 0x01 0x03 0x0000 0x000A = .frame [0x01, 0x03, 0x00, 0x00, 0x00, 0x0A, 0xC5, 0xCD] ∧
    buildRequest 0x01 0x03 0x0000 0x0000 = .rangeError := by decide +kernel

theorem witness_RequestCrcRoundTrip :
    buildRequest 0xFF 0xFF 0xFFFF 0xFFFF = .frame [0xFF, 0xFF, 0xFF, 0xFF, 0xFF, 0xFF, 0x01, 0x94] := by decide +kernel

/-- V-REQ-10, V-REQ-11, V-REQ-12: a witness for each clause. -/
theorem witness_RequestIsNoResponse :
    (buildRequest 0x01 0x7F 0x0000 0x000A ≠ .rangeError ∧ (0x7F#8).toNat < 0x80 ∧ (0x0000#16).toNat / 256 ≠ 3) ∧
    (buildRequest 0x01 0x03 0x0300 0x0004 = .frame [0x01, 0x03, 0x03, 0x00, 0x00, 0x04, 0x44, 0x4D] ∧
      (0x03#8).toNat < 0x80 ∧ (0x0300#16).toNat / 256 = 3) ∧
    (buildRequest 0x01 0x83 0x1234 0x0001 = .frame [0x01, 0x83, 0x12, 0x34, 0x00, 0x01, 0xC1, 0x62] ∧
      0x80 ≤ (0x83#8).toNat ∧ 0x80 ≤ (0x80#8).toNat) := by decide +kernel

theorem witness_LengthFloor : (0 : Nat) < 5 ∧ (4 : Nat) < 5 := by decide

theorem witness_ExceptionWithoutStrictChecks :
    5 ≤ 5 ∧ 5 ≤ 0xFFFF ∧ frameAt [0x01, 0x80] 1 &&& 0x80 ≠ 0 ∧ frameAt [0x01, 0xFF] 1 &&& 0x80 ≠ 0 := by decide

/-- V-RSP-11, V-RSP-10, V-RSP-09 and a normal frame: a witness for each clause. -/
theorem witness_ExceptionWithStrictChecks :
    (5 ≤ 6 ∧ 6 ≠ 5 ∧ frameAt [0x01, 0x83, 0x02] 1 &&& 0x80 ≠ 0) ∧
    leWord 0x00 0x00 ≠ crc16 [0x01, 0x83, 0x02] ∧ leWord 0xC0 0xF1 = crc16 [0x01, 0x83, 0x02] ∧
    frameAt okFrame 1 &&& 0x80 = 0 := by decide +kernel

/-- V-RSP-18 and V-RSP-25, either side of the consistent length. -/
theorem witness_LengthMustMatchByteCount :
    (5 ≤ 6 ∧ frameAt [0x01, 0x03, 0x02] 1 &&& 0x80 = 0 ∧ 6 ≠ 5 + (frameAt [0x01, 0x03, 0x02] 2).toNat) ∧
    (5 ≤ 261 ∧ frameAt [0x07, 0x7F, 0xFF] 1 &&& 0x80 = 0 ∧ 261 ≠ 5 + (frameAt [0x07, 0x7F, 0xFF] 2).toNat) := by decide

/-- V-RSP-22. -/
theorem witness_ChecksumMustMatch :
    let B := frameAt [0x01, 0x03, 0x02, 0x12, 0x34, 0xB5, 0x32]
    B 1 &&& 0x80 = 0 ∧ 7 = 5 + (B 2).toNat ∧
      ((B (7 - 2)).setWidth 16 ||| ((B (7 - 1)).setWidth 16 <<< 8)) ≠ crc16 ((List.range (7 - 2)).map B) := by
  decide +kernel

/-- V-RSP-16 (odd) and V-RSP-20 (even). -/
theorem witness_RegistersDecodeInOrder :
    (let B := frameAt [0x01, 0x03, 0x01, 0xAB, 0xB1, 0xF7]
     B 1 &&& 0x80 = 0 ∧ 6 = 5 + (B 2).toNat ∧ leWord (B (6 - 2)) (B (6 - 1)) = crc16 ((List.range (6 - 2)).map B) ∧
       (B 2).toNat % 2 = 1) ∧
    (let B := frameAt okFrame
     B 1 &&& 0x80 = 0 ∧ 7 = 5 + (B 2).toNat ∧ leWord (B (7 - 2)) (B (7 - 1)) = crc16 ((List.range (7 - 2)).map B) ∧
       (B 2).toNat % 2 = 0) := by decide +kernel

/-- V-RSP-20, under both values of the strict bit. -/
theorem witness_OkOnlyForValidFrame : ∀ x, parseResponse 7 (frameAt okFrame) x = .ok 1 3 [0x1234] := by decide +kernel

theorem witness_ResponseFrameParsesBack :
    (0x00 : Byte) &&& 0x80 = 0 ∧ (0x7F : Byte) &&& 0x80 = 0 ∧ ([] : List Half).length ≤ 127 ∧
    (List.replicate 127 (0xFFFF : Half)).length ≤ 127 := by simp

theorem witness_ExceptionFrameParsesBack : (0x03 : Byte) &&& 0x80 = 0 ∧ (0x7F : Byte) &&& 0x80 = 0 := by decide

/-- Two sequences of bytes that agree below 260 and differ above. -/
theorem witness_ParseReadsOnlyStoredBytes :
    (∀ i, i < min 0xFFFF 260 → frameAt okFrame i = (fun i => if i < 260 then frameAt okFrame i else 0xFF) i) ∧
    frameAt okFrame 260 ≠ (fun i => if i < 260 then frameAt okFrame i else 0xFF) 260 :=
  ⟨fun i h => by simp [show i < 260 by omega], by decide⟩

/-- V-RSP-20 for each class of bit, and V-RSP-14 for the case n = 5. -/
theorem witness_SingleBitFlipIsDetected :
    (∀ x, parseResponse 7 (frameAt okFrame) x = .ok 1 3 [0x1234]) ∧
    (∀ x, parseResponse 5 (frameAt [0x01, 0x03, 0x00, 0x20, 0xF0]) x = .ok 1 3 []) ∧
    (2 < 7 ∧ 7 < 8) ∧ (1 < 5 ∧ 1 < 7) ∧ (0 ≠ 2 ∧ ¬ (0 = 1 ∧ 7 = 7)) ∧ (6 ≠ 2 ∧ ¬ (6 = 1 ∧ 0 = 7)) := by decide +kernel

/-- The lengths where RX_PUSH's clauses meet: 0, 259, 260, 0xFFFE and 0xFFFF. -/
theorem witness_RxPushAppends :
    (0x0000#16).toNat < 260 ∧ (259#16).toNat < 260 ∧ 260 ≤ (260#16).toNat ∧ (0xFFFE#16).toNat < 0xFFFF ∧
    260 ≤ (0xFFFF#16).toNat ∧ (0xFFFF#16).toNat = 0xFFFF ∧ 0 ≠ (259#16).toNat ∧ 260 ≠ (259#16).toNat := by decide

theorem witness_ParseIsIdempotent : ∃ t, exec .parse (loaded true okFrame) = .next t := ⟨_, rfl⟩

/-- Two states that differ in the request, the accumulator and the old result. -/
theorem witness_ParseUsesItsInputsAlone :
    let s := loaded false okFrame
    let t := { parsed with crc := 0x1234, count := 9 }
    s.rxLen = t.rxLen ∧ s.rxBuf = t.rxBuf ∧ s.excCrcChk = t.excCrcChk ∧ s ≠ t ∧
      (∃ s', exec .parse s = .next s') ∧ (∃ t', exec .parse t = .next t') ∧ Reg.rspInfo.isResult = true :=
  ⟨rfl, rfl, rfl, by decide +kernel, ⟨_, rfl⟩, ⟨_, rfl⟩, rfl⟩

/-- A frame of 7 bytes, and the same with another byte beyond it. -/
theorem witness_StaleBytesAreUnobservable :
    let s := parsed.setPending [.access (cmdWrite .parse)]
    let t := { s with rxBuf := s.rxBuf.set 7 0xEE }
    alikeBelowLength s t ∧ s.rxByte 7 ≠ t.rxByte 7 ∧ ∃ s', step s = .next s' := by
  refine ⟨⟨rfl, ?_⟩, by decide +kernel, ⟨_, rfl⟩⟩
  show ∀ i, i < 7 → _
  decide +kernel

/-- A CRC_BYTE, a CRC_INIT and a reset each change CRC.VALUE. -/
theorem witness_OnlyCrcCommandsWriteCrc :
    reads (step (issuing 0x00000102)) .crc ≠ some ((issuing 0x00000102).readReg .crc) ∧
    (let s := { issuing 0x00000001 with crc := 0 }
     reads (step s) .crc ≠ some (s.readReg .crc)) ∧
    (let s := { State.reset with crc := 0, pending := [.reset none] }
     reads (step s) .crc ≠ some (s.readReg .crc)) := by decide +kernel

/-- A REQ_BUILD and a reset each change a request result. -/
theorem witness_OnlyReqBuildWritesRequestResult :
    Reg.reqStatus.isRequestResult = true ∧
    reads (step (issuing 0x00000003)) .reqStatus ≠ some ((issuing 0x00000003).readReg .reqStatus) ∧
    (let s := { State.reset with reqFrame0 := 1, pending := [.reset none] }
     reads (step s) .reqFrame0 ≠ some (s.readReg .reqFrame0)) := by decide +kernel

/-- RX_PUSH changes the length and a byte, RX_CLEAR the length, PARSE a result register; none of them is a reset. -/
theorem witness_OnlyParserCommandsWriteParserState :
    (issuing 0x00008305).nextIsReset = false ∧
    reads (step (issuing 0x00008305)) .rxLen ≠ some ((issuing 0x00008305).readReg .rxLen) ∧
    (∃ t, step (issuing 0x00008305) = .next t ∧ t.rxByte 0 ≠ (issuing 0x00008305).rxByte 0) ∧
    (let s := parsed.setPending [.access (cmdWrite .rxClear)]
     s.nextIsReset = false ∧ reads (step s) .rxLen ≠ some (s.readReg .rxLen)) ∧
    Reg.rspStatus.isResult = true ∧
    reads (step (issuing 0x00000006)) .rspStatus ≠ some ((issuing 0x00000006).readReg .rspStatus) :=
  ⟨rfl, by decide +kernel, ⟨_, rfl, by decide +kernel⟩, ⟨rfl, by decide +kernel⟩, rfl, by decide +kernel⟩

/-- A legal and an illegal word written; an illegal word and a reset each change ILLEGAL. -/
theorem witness_IllegalReportsLatestCommandWord :
    (issuing 0x00000006).pending = .access (.write 0x004 4 0x00000006) :: [] ∧ WellFormed.word 0x00000006 = true ∧
    (issuing 0x00000007).pending = .access (.write 0x004 4 0x00000007) :: [] ∧ WellFormed.word 0x00000007 = false ∧
    (∃ t, exec .nop State.reset = .next t) ∧
    reads (step (issuing 0x00000007)) .cmdStatus ≠ some ((issuing 0x00000007).readReg .cmdStatus) ∧
    (let s := { State.reset with illegal := true, pending := [.reset none] }
     reads (step s) .cmdStatus ≠ some (s.readReg .cmdStatus)) :=
  ⟨rfl, by decide, rfl, by decide, ⟨_, rfl⟩, by decide +kernel⟩

/-- V-RSP-20 after PARSE, with V-REQ-01's frame, meets R40's invariant, and a step goes on from it. -/
theorem witness_StepKeepsInvariant :
    let s := { parsed with
      reqResult := .ok, reqFrame0 := 0x00000301, reqFrame1 := 0xCDC50A00, pending := [.access (cmdWrite .nop)] }
    RegisterInvariant s ∧ ∃ t, step s = .next t :=
  ⟨{ dataOnlyWhenOk := fun h => absurd rfl h
     payloadZeroWhenNone := fun _ => ⟨rfl, rfl⟩
     registersBounded := fun _ => by decide +kernel
     frameOnlyWhenOk := by decide +kernel
     frameIsBuilt := fun _ => ⟨0x01, 0x03, 0x0000, 0x000A, _, witness_RequestLayout.1, by decide +kernel, by decide +kernel⟩ },
    ⟨_, rfl⟩⟩

/-- A state with a standing result meets R153's invariant, and a step goes on from it. -/
theorem witness_StepKeepsResultOfBuffer :
    let s := parsed.setPending [.access (cmdWrite .rxClear)]
    ResultIsOfBuffer s ∧ ∃ t, step s = .next t := by
  refine ⟨.inr ⟨true, ?_⟩, ⟨_, rfl⟩⟩
  rw [show parseResponse _ _ true = .ok 1 3 [0x1234] by decide +kernel]
  exact ⟨rfl, rfl, rfl, rfl, by decide +kernel⟩

/-- A write to REQ_ARGS and one to the last offset of the window. -/
theorem witness_StepPerformsLegalWrite :
    (parsed.setPending [.access (.write 0x014 4 0x000A0000)]).pending = .access (.write 0x014 4 0x000A0000) :: [] ∧
    (0x014 : Offset).val % 4 = 0 ∧
    (parsed.setPending [.access (.write 0x1FC 4 0xFFFFFFFF)]).pending = .access (.write 0x1FC 4 0xFFFFFFFF) :: [] ∧
    (0x1FC : Offset).val % 4 = 0 := ⟨rfl, by decide, rfl, by decide⟩

end Sys2Proof.Tests
end

section
/-!
The bus writes of spec/20_memory.md (R53 to R56): what each offset does with a write, the values the writable registers read
back, and the statements settled from these.
-/

namespace Sys2Proof.Machine

theorem accessLegal_four {off : Offset} (h : off.val % 4 = 0) : accessLegal off 4 = true := by
  simp [accessLegal, h]

theorem accessLegal_eq_false_iff {off : Offset} {size : Nat} :
    accessLegal off size = false ↔ size ≠ 4 ∨ off.val % 4 ≠ 0 := by
  simp [accessLegal, imp_iff_not_or]

theorem busWrite_ctrl (s : State) (v : Word) : busWrite s 0x000 4 v = .next (s.writeCtrl v) := rfl

theorem busWrite_cmd (s : State) (v : Word) : busWrite s 0x004 4 v = executeCommand v s := rfl

theorem busWrite_reqHdr (s : State) (v : Word) : busWrite s 0x010 4 v = .next (s.writeReqHdr v) := rfl

theorem busWrite_reqArgs (s : State) (v : Word) : busWrite s 0x014 4 v = .next (s.writeReqArgs v) := rfl

theorem busRead_cmd (s : State) : busRead s 0x004 4 = .ok 0 := rfl

/-- Only the offsets of CTRL, CMD, REQ_HDR and REQ_ARGS take a write: the read-only registers and the unmapped offsets
ignore it (R55, R56). -/
theorem busWrite_ignored (s : State) {off : Offset} (v : Word) (hal : off.val % 4 = 0)
    (hoff : off.val ∉ [0x000, 0x004, 0x010, 0x014]) : busWrite s off 4 v = .next s := by
  have hnot {r : Reg} (hr : Reg.at? off.val = some r) : r.offset ∉ [0x000, 0x004, 0x010, 0x014] :=
    Reg.offset_of_at? hr ▸ hoff
  obtain ⟨hr, -⟩ | ⟨hr, -⟩ | ⟨hr, -⟩ | ⟨hr, -⟩ | ⟨hr, -⟩ | hw := busWrite_legal_cases (s := s) v (accessLegal_four hal)
  case inr.inr.inr.inr.inr => exact hw
  all_goals exact absurd (by decide) (hnot hr)

/-- CTRL keeps bit 0 of the data and reads 0 above it (R22, R36). -/
theorem readReg_ctrl_writeCtrl (s : State) (v : Word) : (s.writeCtrl v).readReg .ctrl = v &&& 0x00000001 := by
  ext i hi
  cases i with
  | zero => simp [State.readReg, BitVec.getLsbD_eq_getElem]
  | succ i => simp [State.readReg]

/-- REQ_HDR keeps the low half of the data and reads 0 above it (R26, R36). -/
theorem readReg_reqHdr_writeReqHdr (s : State) (v : Word) :
    (s.writeReqHdr v).readReg .reqHdr = v &&& 0x0000FFFF := by
  rw [State.readReg, packBytes_append]
  apply BitVec.eq_of_getLsbD_eq
  intro i _
  simp only [State.writeReqHdr_func, State.writeReqHdr_slave, BitVec.getLsbD_append, BitVec.getLsbD_and]
  interval_cases i <;> simp

/-- REQ_ARGS has no reserved bit: it reads the data whole (R27). -/
theorem readReg_reqArgs_writeReqArgs (s : State) (v : Word) : (s.writeReqArgs v).readReg .reqArgs = v := by
  rw [State.readReg, packHalves_append]
  exact BitVec.extractLsb'_append_extractLsb'_eq_extractLsb' rfl |>.trans BitVec.extractLsb'_eq_self

theorem writeCtrl_frame (s : State) (v : Word) :
    keepsAllBut (· == .ctrl) s (s.writeCtrl v) ∧ keepsBuffer s (s.writeCtrl v) ∧ keepsPort s (s.writeCtrl v) :=
  ⟨fun _ hr => s.readReg_writeCtrl v (beq_eq_false_iff_ne.mp hr), fun _ => rfl, rfl, rfl⟩

theorem writeReqHdr_frame (s : State) (v : Word) :
    keepsAllBut (· == .reqHdr) s (s.writeReqHdr v) ∧ keepsBuffer s (s.writeReqHdr v) ∧
      keepsPort s (s.writeReqHdr v) :=
  ⟨fun _ hr => s.readReg_writeReqHdr v (beq_eq_false_iff_ne.mp hr), fun _ => rfl, rfl, rfl⟩

theorem writeReqArgs_frame (s : State) (v : Word) :
    keepsAllBut (· == .reqArgs) s (s.writeReqArgs v) ∧ keepsBuffer s (s.writeReqArgs v) ∧
      keepsPort s (s.writeReqArgs v) :=
  ⟨fun _ hr => s.readReg_writeReqArgs v (beq_eq_false_iff_ne.mp hr), fun _ => rfl, rfl, rfl⟩

/-- Settles O11: at each of the four offsets that take a write, the operation it performs with its stored fields and its
frame; every other aligned offset ignores the write, and an illegal access is a bus error. -/
theorem writeReachesItsRegister : Obligations.WriteReachesItsRegister := by
  unfold Obligations.WriteReachesItsRegister
  intro s v
  refine ⟨⟨_, busWrite_ctrl s v, rfl, readReg_ctrl_writeCtrl s v, writeCtrl_frame s v⟩, busWrite_cmd s v,
    ⟨_, busWrite_reqHdr s v, rfl, rfl, readReg_reqHdr_writeReqHdr s v, writeReqHdr_frame s v⟩,
    ⟨_, busWrite_reqArgs s v, rfl, rfl, readReg_reqArgs_writeReqArgs s v, writeReqArgs_frame s v⟩, ?_, ?_⟩
  · exact fun off hal hoff => busWrite_ignored s v hal hoff
  · exact fun off size hbad => busWrite_illegal v (accessLegal_eq_false_iff.mpr hbad)

/-- Settles O12: the offset of a read-only register is aligned and is none of the four that take a write. -/
theorem readOnlyWritesIgnored : Obligations.ReadOnlyWritesIgnored := by
  unfold Obligations.ReadOnlyWritesIgnored
  intro s off v hro
  obtain ⟨hal, hoff⟩ : off.val % 4 = 0 ∧ off.val ∉ [0x000, 0x004, 0x010, 0x014] := by
    obtain hmem | ⟨i, -, hi⟩ := hro
    · have hall : ∀ n ∈ [0x008, 0x00C, 0x018, 0x01C, 0x020, 0x024, 0x028, 0x02C, 0x030, 0x034],
          n % 4 = 0 ∧ n ∉ [0x000, 0x004, 0x010, 0x014] := by decide
      exact hall _ hmem
    · rw [hi]
      simp only [List.mem_cons, List.not_mem_nil, or_false]
      omega
  exact ⟨busWrite_ignored s v hal hoff, busRead_cmd s⟩

end Sys2Proof.Machine
end

section
/-!
The decoder of spec/30_encoding.md (R70 to R75): when it answers a command and when it refuses, in terms of the word's
fields, what a row of the opcode map says of the same fields, and the statements settled from these.
-/

namespace Sys2Proof

theorem decode_eq_command_iff {v : Word} {i : Instr} :
    decode v = .command i ↔ Cmd.rsvd v = 0 ∧ commandOf (Cmd.opcode v) (Cmd.data v) = some i := by
  constructor
  · intro h
    obtain ⟨j, hj, hrsvd, hcmd⟩ | ⟨w, hw, -⟩ := decode_cases v
    · obtain rfl : j = i := Decoded.command.inj (hj.symm.trans h)
      exact ⟨hrsvd, hcmd⟩
    · exact absurd (hw.symm.trans h) (by simp)
  · rintro ⟨hrsvd, hcmd⟩
    simp [decode, hrsvd, hcmd]

theorem exists_decode_eq_command_iff (v : Word) :
    (∃ i, decode v = .command i) ↔ Cmd.rsvd v = 0 ∧ (Cmd.opcode v).toNat < 7 := by
  simp only [decode_eq_command_iff, exists_and_left]
  rw [← Option.ne_none_iff_exists', ne_eq, commandOf_eq_none, not_le]

/-- Every word decodes to a command or to illegal, and never to both. -/
theorem exists_decode_eq_illegal_iff (v : Word) :
    (∃ w, decode v = .illegal w) ↔ ¬ ∃ i, decode v = .command i := by
  cases decode v <;> simp

theorem wellFormed_word_iff (v : Word) :
    WellFormed.word v = true ↔ Cmd.rsvd v = 0 ∧ (Cmd.opcode v).toNat < 7 := by
  rw [rsvd_eq_zero, opcode_toNat]
  simp [WellFormed.word, WellFormed.rsvdZero, WellFormed.opcodeAssigned]

/-- Every row of R72's map has the one mask, and its pattern is its OPCODE with DATA and RSVD zero. -/
theorem opcodeMap_mask_pattern {r : OpcodeRow} (hr : r ∈ opcodeMap) :
    r.mask = 0xFFFF00FF ∧ r.pattern = (Cmd.opcode r.pattern).setWidth 32 := by
  have hall : opcodeMap.all (fun r => r.mask == 0xFFFF00FF && r.pattern == (Cmd.opcode r.pattern).setWidth 32) := by
    decide
  simpa using List.all_eq_true.mp hall r hr

theorem OpcodeRow.fits_iff {r : OpcodeRow} (hr : r ∈ opcodeMap) (v : Word) :
    r.fits v = true ↔ Cmd.rsvd v = 0 ∧ Cmd.opcode v = Cmd.opcode r.pattern := by
  obtain ⟨hmask, hpattern⟩ := opcodeMap_mask_pattern hr
  rw [OpcodeRow.fits, beq_iff_eq, hmask, ← fields_of_match, ← hpattern]

/-- The rows of the map differ in OPCODE (R72). -/
theorem opcodeMap_opcode_injective :
    ∀ j k : Fin opcodeMap.length, Cmd.opcode opcodeMap[j].pattern = Cmd.opcode opcodeMap[k].pattern → j = k := by
  decide

theorem commandOf_opcode_pattern {r : OpcodeRow} (hr : r ∈ opcodeMap) (data : Byte) :
    commandOf (Cmd.opcode r.pattern) data = some (r.build data) := by
  simp only [opcodeMap, List.mem_cons, List.not_mem_nil, or_false] at hr
  rcases hr with rfl | rfl | rfl | rfl | rfl | rfl | rfl <;> rfl

/-- Each assigned OPCODE has a row. -/
theorem exists_row_of_opcode_lt {op : Byte} (h : op.toNat < 7) : ∃ r ∈ opcodeMap, Cmd.opcode r.pattern = op := by
  have hrow : ∀ n : Fin 7, ∃ r ∈ opcodeMap, Cmd.opcode r.pattern = BitVec.ofNat 8 n := by decide
  simpa using hrow ⟨op.toNat, h⟩

theorem commandOf_eq_some_iff {op data : Byte} {i : Instr} :
    commandOf op data = some i ↔ ∃ r ∈ opcodeMap, op = Cmd.opcode r.pattern ∧ r.build data = i := by
  constructor
  · intro h
    have hlt : op.toNat < 7 := not_le.mp fun hle => by simp [(commandOf_eq_none op data).mpr hle] at h
    obtain ⟨r, hr, rfl⟩ := exists_row_of_opcode_lt hlt
    exact ⟨r, hr, rfl, Option.some.inj ((commandOf_opcode_pattern hr data).symm.trans h)⟩
  · rintro ⟨r, hr, rfl, rfl⟩
    exact commandOf_opcode_pattern hr data

/-- The five OPCODEs without an operand select one command at every DATA (R74). -/
theorem commandOf_ignores_data {op : Word} (hop : op ∈ ([0x00, 0x01, 0x03, 0x04, 0x06] : List Word)) :
    op = (Cmd.opcode op).setWidth 32 ∧ ∃ i, ∀ data, commandOf (Cmd.opcode op) data = some i := by
  simp only [List.mem_cons, List.not_mem_nil, or_false] at hop
  rcases hop with rfl | rfl | rfl | rfl | rfl <;> exact ⟨rfl, _, fun _ => rfl⟩

/-- Settles O2: a row fits by RSVD and OPCODE, the same two fields the decoder looks at, and the rows differ in OPCODE. -/
theorem decodeFollowsOpcodeMap : Obligations.DecodeFollowsOpcodeMap := by
  unfold Obligations.DecodeFollowsOpcodeMap
  refine fun v => ⟨fun i => ?_, fun j k hj hk => ?_⟩
  · rw [decode_eq_command_iff, commandOf_eq_some_iff]
    constructor
    · rintro ⟨hrsvd, r, hr, hop, hbuild⟩
      exact ⟨r, hr, (OpcodeRow.fits_iff hr v).mpr ⟨hrsvd, hop⟩, hbuild⟩
    · rintro ⟨r, hr, hfits, hbuild⟩
      obtain ⟨hrsvd, hop⟩ := (OpcodeRow.fits_iff hr v).mp hfits
      exact ⟨hrsvd, r, hr, hop, hbuild⟩
  · obtain ⟨-, hopj⟩ := (OpcodeRow.fits_iff (List.getElem_mem _) v).mp hj
    obtain ⟨-, hopk⟩ := (OpcodeRow.fits_iff (List.getElem_mem _) v).mp hk
    exact opcodeMap_opcode_injective j k (hopj.symm.trans hopk)

/-- Settles O3: both halves are the word's RSVD and OPCODE fields read as numbers. -/
theorem illegalWordsAreTheReservedOnes : Obligations.IllegalWordsAreTheReservedOnes := by
  unfold Obligations.IllegalWordsAreTheReservedOnes
  refine fun v => ⟨?_, ?_⟩
  · rw [exists_decode_eq_illegal_iff, exists_decode_eq_command_iff, rsvd_eq_zero, opcode_toNat]
    omega
  · rw [exists_decode_eq_command_iff, wellFormed_word_iff]

/-- Settles O4: a match leaves DATA free, and the OPCODE selects its command without looking at DATA. -/
theorem dataFieldIgnoredWithoutOperand : Obligations.DataFieldIgnoredWithoutOperand := by
  unfold Obligations.DataFieldIgnoredWithoutOperand
  intro op hop
  obtain ⟨hword, i, hcmd⟩ := commandOf_ignores_data hop
  exact ⟨i, fun v hv => decode_of_match (hv.trans hword) (hcmd _)⟩

end Sys2Proof
end

section
/-!
The CRC unit of spec/40_crc.md (R100 to R104): one shift in terms of the bit that leaves, the frame of the two commands that
write the accumulator, and the statements settled from these.
-/

namespace Sys2Proof.Machine

/-- R100's test of bit 0, as the bit itself. -/
theorem and_one_eq_zero_iff (c : Half) : c &&& 0x0001 = 0 ↔ c.getLsbD 0 = false := by
  have hbit : c &&& 0x0001 = (BitVec.ofBool (c.getLsbD 0)).setWidth 16 := BitVec.and_one_eq_setWidth_ofBool_getLsbD
  rw [hbit]
  cases c.getLsbD 0 <;> decide

/-- POLY, 0xA001, has its ones at bits 15, 13 and 0 only (R100). -/
theorem poly_getLsbD_eq_false {i : Nat} (hlow : 1 ≤ i) (hhigh : i ≤ 14) (hne : i ≠ 13) :
    (0xA001#16).getLsbD i = false := by
  revert hne
  interval_cases i <;> decide

/-- The accumulator's new value reads back at CRC and the command reads back as legal (R24, R25). -/
theorem readReg_crc_setCrc_markLegal (s : State) (c : Half) :
    (s.setCrc c).markLegal.readReg .crc = c.setWidth 32 ∧ (s.setCrc c).markLegal.readReg .cmdStatus = 0 :=
  ⟨rfl, rfl⟩

/-- A command that writes CRC.VALUE leaves every register but CRC and CMD_STATUS, the buffer and the port alone. -/
theorem setCrc_markLegal_frame (s : State) (c : Half) :
    keepsAllBut (· ∈ [.crc, .cmdStatus]) s (s.setCrc c).markLegal ∧ keepsBuffer s (s.setCrc c).markLegal ∧
      keepsPort s (s.setCrc c).markLegal := by
  refine ⟨fun r hr => ?_, fun _ => by simp, by simp, by simp⟩
  obtain ⟨hcrc, hstatus⟩ : r ≠ .crc ∧ r ≠ .cmdStatus := by simpa using hr
  rw [State.readReg_markLegal _ hstatus, State.readReg_setCrc _ _ hcrc]

/-- Settles O22: the seed and the append law of `crc16`, with the known vector evaluated. -/
theorem crc16FoldsBytesInOrder : Obligations.Crc16FoldsBytesInOrder := by
  unfold Obligations.Crc16FoldsBytesInOrder
  refine ⟨rfl, fun bs b => ?_, by decide +kernel⟩
  rw [crc16_concat, crcByte_eq]

/-- Settles O24: OPCODE 0x02 takes DATA as its operand, and its arm writes the folded accumulator. -/
theorem crcByteFoldsOperand : Obligations.CrcByteFoldsOperand := by
  unfold Obligations.CrcByteFoldsOperand
  refine ⟨fun v hv => decode_of_match (op := 0x02) hv rfl, fun s b => ?_⟩
  obtain ⟨hcrc, hstatus⟩ := readReg_crc_setCrc_markLegal s (crcByte s.crc b)
  exact ⟨_, exec_crcByte b s, crcByte_eq s.crc b ▸ hcrc, hstatus, setCrc_markLegal_frame s _⟩

/-- Settles O21: the two cases are those of bit 0, and each bit is the one above it with the feedback at the bits of POLY. -/
theorem lfsrStepBitByBit : Obligations.LfsrStepBitByBit := by
  unfold Obligations.LfsrStepBitByBit
  intro c
  refine ⟨fun hodd => lfsrStep_odd ?_, fun heven => lfsrStep_even ((and_one_eq_zero_iff c).mpr heven), ?_, ?_, ?_, ?_⟩
  · rw [ne_eq, and_one_eq_zero_iff, hodd]
    decide
  · rw [lfsrStep_getLsbD]; simp
  · rw [lfsrStep_getLsbD]; simp
  · rw [lfsrStep_getLsbD]; simp
  · intro i hlow hhigh hne
    rw [lfsrStep_getLsbD, poly_getLsbD_eq_false hlow hhigh hne, Bool.and_false, Bool.xor_false]

/-- Settles O23: OPCODE 0x01 ignores DATA, and its arm writes the seed. -/
theorem crcInitSetsSeed : Obligations.CrcInitSetsSeed := by
  unfold Obligations.CrcInitSetsSeed
  refine ⟨fun v hv => decode_of_match (op := 0x01) hv rfl, fun s => ?_⟩
  obtain ⟨hcrc, hstatus⟩ := readReg_crc_setCrc_markLegal s crcSeed
  exact ⟨_, exec_crcInit s, hcrc, hstatus, setCrc_markLegal_frame s crcSeed⟩

end Sys2Proof.Machine
end

section
/-!
The request framer of spec/41_request.md (R120, R121): when it refuses, the frame it answers as a body under its CRC, what the
CRC adds to any body, and the statement settled from these.
-/

namespace Sys2Proof.Machine

theorem buildRequest_zero (s f : Byte) (st : Half) : buildRequest s f st 0 = .rangeError := rfl

theorem buildRequest_of_ne_zero {n : Half} (s f : Byte) (st : Half) (hn : n ≠ 0) :
    buildRequest s f st n = .frame (withCrc (requestBody s f st n)) := if_neg hn

theorem buildRequest_eq_rangeError_iff {s f : Byte} {st n : Half} : buildRequest s f st n = .rangeError ↔ n = 0 := by
  constructor
  · intro h
    by_contra hn
    simp [buildRequest_of_ne_zero s f st hn] at h
  · rintro rfl
    exact buildRequest_zero s f st

theorem buildRequest_eq_frame_iff {s f : Byte} {st n : Half} {r : List Byte} :
    buildRequest s f st n = .frame r ↔ n ≠ 0 ∧ r = withCrc (requestBody s f st n) := by
  constructor
  · intro h
    have hn : n ≠ 0 := fun hn => by simp [buildRequest_eq_rangeError_iff.mpr hn] at h
    exact ⟨hn, BuildResult.frame.inj (h.symm.trans (buildRequest_of_ne_zero s f st hn))⟩
  · rintro ⟨hn, rfl⟩
    exact buildRequest_of_ne_zero s f st hn

@[simp] theorem length_requestBody (s f : Byte) (st n : Half) : (requestBody s f st n).length = 6 := rfl

@[simp] theorem length_withCrc (body : List Byte) : (withCrc body).length = body.length + 2 := by simp [withCrc]

/-- The CRC comes after the body and leaves its bytes in place. -/
theorem frameAt_withCrc_of_lt {body : List Byte} {i : Nat} (hi : i < body.length) :
    frameAt (withCrc body) i = frameAt body i := List.getD_append _ _ _ _ hi

/-- The two bytes after the body, low byte first, are the body's CRC (R59). -/
theorem leWord_frameAt_withCrc (body : List Byte) :
    leWord (frameAt (withCrc body) body.length) (frameAt (withCrc body) (body.length + 1)) = crc16 body := by
  have hlow : frameAt (withCrc body) body.length = loByte (crc16 body) := by simp [frameAt, withCrc]
  have hhigh : frameAt (withCrc body) (body.length + 1) = hiByte (crc16 body) := by simp [frameAt, withCrc]
  rw [hlow, hhigh, leWord_loByte_hiByte]

/-- Settles O31: a frame answered is the six body bytes, each field's high byte first, under their CRC. -/
theorem requestLayout : Obligations.RequestLayout := by
  unfold Obligations.RequestLayout
  refine fun s f st n => ⟨buildRequest_eq_rangeError_iff, fun r hr => ?_⟩
  obtain ⟨-, rfl⟩ := buildRequest_eq_frame_iff.mp hr
  have hbody {i : Nat} (hi : i < 6) :
      frameAt (withCrc (requestBody s f st n)) i = frameAt (requestBody s f st n) i := frameAt_withCrc_of_lt hi
  refine ⟨by simp, hbody (by decide), hbody (by decide), ?_, ?_, leWord_frameAt_withCrc (requestBody s f st n)⟩
  · rw [hbody (by decide), hbody (by decide)]
    exact beWord_hiByte_loByte st
  · rw [hbody (by decide), hbody (by decide)]
    exact beWord_hiByte_loByte n

end Sys2Proof.Machine
end

section
/-!
The pipeline of spec/42_response.md (R140 to R149): each stage's answer under the condition the spec gives for it, the bounds
on what an outcome carries, and the statements settled from these.
-/

namespace Sys2Proof.Machine

theorem parseResponse_short {n : Nat} (B : Nat → Byte) (x : Bool) (h : n < 5) : parseResponse n B x = .tooShort :=
  if_pos h

theorem exceptionStage_lenient (n : Nat) (B : Nat → Byte) :
    exceptionStage n B false = .deviceException (B 1 &&& 0x7F) (B 2) := by
  simp [exceptionStage]

theorem exceptionStage_strict_of_ne {n : Nat} (B : Nat → Byte) (h : n ≠ 5) :
    exceptionStage n B true = .lengthMismatch 5 n :=
  if_pos ⟨rfl, h⟩

/-- At length 5 the strict checks are down to the CRC of the three bytes before it (R144). -/
theorem exceptionStage_strict_five (B : Nat → Byte) :
    exceptionStage 5 B true =
      if leWord (B 3) (B 4) = crc16 [B 0, B 1, B 2] then .deviceException (B 1 &&& 0x7F) (B 2)
      else .checksumMismatch (leWord (B 3) (B 4)) (crc16 [B 0, B 1, B 2]) := by
  have hspan : span B 0 3 = [B 0, B 1, B 2] := rfl
  simp [exceptionStage, hspan]

theorem normalStages_of_length_ne {n : Nat} {B : Nat → Byte} (h : n ≠ 5 + (B 2).toNat) :
    normalStages n B = .lengthMismatch (5 + (B 2).toNat) n :=
  if_pos h

theorem normalStages_of_crc_ne {n : Nat} {B : Nat → Byte} (h : n = 5 + (B 2).toNat)
    (hc : leWord (B (n - 2)) (B (n - 1)) ≠ crc16 ((List.range (n - 2)).map B)) :
    normalStages n B =
      .checksumMismatch (leWord (B (n - 2)) (B (n - 1))) (crc16 ((List.range (n - 2)).map B)) := by
  rw [← span_zero] at hc ⊢
  exact (if_neg (not_not.mpr h)).trans (if_pos hc)

theorem normalStages_of_crc_eq {n : Nat} {B : Nat → Byte} (h : n = 5 + (B 2).toNat)
    (hc : leWord (B (n - 2)) (B (n - 1)) = crc16 ((List.range (n - 2)).map B)) :
    normalStages n B = decodeStage B := by
  rw [← span_zero] at hc
  exact (if_neg (not_not.mpr h)).trans (if_neg (not_not.mpr hc))

theorem decodeStage_odd {B : Nat → Byte} (h : (B 2).toNat % 2 = 1) : decodeStage B = .malformedData :=
  if_pos ((oddByte_iff (B 2)).mpr h)

theorem decodeStage_even {B : Nat → Byte} (h : (B 2).toNat % 2 = 0) :
    decodeStage B =
      .ok (B 0) (B 1) ((List.range ((B 2).toNat / 2)).map fun j => beWord (B (3 + 2 * j)) (B (4 + 2 * j))) :=
  if_neg ((oddByte_iff (B 2)).not.mpr (by omega))

/-- The strict bit has no effect on a frame with bit 7 of byte 1 clear, whatever its length (R144). -/
theorem parseResponse_strict_eq_lenient {n : Nat} {B : Nat → Byte} (hb : B 1 &&& 0x80 = 0) :
    parseResponse n B true = parseResponse n B false := by
  obtain hn | hn : n < 5 ∨ 5 ≤ n := lt_or_ge n 5
  · rw [parseResponse_short B true hn, parseResponse_short B false hn]
  · rw [parseResponse_normal true hn hb, parseResponse_normal false hn hb]

/-- What an outcome carries fits the registers it goes to: at most MAX_REGS words (R35), lengths of 16 bits (R34). -/
def ParseResult.FitsRegisters : ParseResult → Prop
  | .ok _ _ regs => regs.length ≤ Config.maxRegs
  | .lengthMismatch expected actual => expected < 2 ^ 16 ∧ actual < 2 ^ 16
  | _ => True

theorem exceptionStage_fitsRegisters {n : Nat} (B : Nat → Byte) (x : Bool) (hn : n < 2 ^ 16) :
    (exceptionStage n B x).FitsRegisters := by
  cases x with
  | false =>
    rw [exceptionStage_lenient]
    trivial
  | true =>
    by_cases h5 : n = 5
    · rw [h5, exceptionStage_strict_five]
      split <;> trivial
    · rw [exceptionStage_strict_of_ne B h5]
      exact ⟨by decide, hn⟩

/-- A byte count is at most 255, so it decodes into at most 127 words (R149). -/
theorem decodeStage_fitsRegisters (B : Nat → Byte) : (decodeStage B).FitsRegisters := by
  obtain ⟨-, h⟩ | ⟨-, h⟩ := decodeStage_cases B
  · rw [h]
    trivial
  · have hcount : (B 2).toNat < 2 ^ 8 := (B 2).isLt
    have hwords : (B 2).toNat / 2 ≤ 127 := by omega
    rw [h, ParseResult.FitsRegisters, List.length_map, List.length_range]
    exact hwords

theorem normalStages_fitsRegisters {n : Nat} (B : Nat → Byte) (hn : n < 2 ^ 16) :
    (normalStages n B).FitsRegisters := by
  obtain ⟨-, h⟩ | ⟨-, -, h⟩ | ⟨-, -, h⟩ := normalStages_cases n B
  · have hcount : (B 2).toNat < 2 ^ 8 := (B 2).isLt
    rw [h]
    exact ⟨by omega, hn⟩
  · rw [h]
    trivial
  · rw [h]
    exact decodeStage_fitsRegisters B

theorem parseResponse_fitsRegisters {n : Nat} (B : Nat → Byte) (x : Bool) (hn : n < 2 ^ 16) :
    (parseResponse n B x).FitsRegisters := by
  obtain hshort | hlong : n < 5 ∨ 5 ≤ n := lt_or_ge n 5
  · rw [parseResponse_short B x hshort]
    trivial
  · by_cases hb : B 1 &&& 0x80 = 0
    · rw [parseResponse_normal x hlong hb]
      exact normalStages_fitsRegisters B hn
    · rw [parseResponse_exception x hlong hb]
      exact exceptionStage_fitsRegisters B x hn

/-- Settles O36: the two strict checks in order at length 5 or more, and no effect of the bit on a normal frame. -/
theorem exceptionWithStrictChecks : Obligations.ExceptionWithStrictChecks := by
  unfold Obligations.ExceptionWithStrictChecks
  refine fun n B => ⟨fun hn hb => ?_, parseResponse_strict_eq_lenient⟩
  rw [parseResponse_exception true hn hb]
  refine ⟨exceptionStage_strict_of_ne B, ?_, ?_⟩
  · rintro rfl hc
    rw [exceptionStage_strict_five, if_neg hc]
  · rintro rfl hc
    rw [exceptionStage_strict_five, if_pos hc]

/-- Settles O38: a consistent length is at least 5, and stage 4 compares the last two bytes with the CRC of the others. -/
theorem checksumMustMatch : Obligations.ChecksumMustMatch := by
  unfold Obligations.ChecksumMustMatch
  intro n B x hb hn hc
  rw [parseResponse_normal x (by omega) hb]
  exact normalStages_of_crc_ne hn hc

/-- Settles O39: with a good CRC the frame comes to stage 5, whose two answers are told apart by the parity of byte 2. -/
theorem registersDecodeInOrder : Obligations.RegistersDecodeInOrder := by
  unfold Obligations.RegistersDecodeInOrder
  intro n B x hb hn hc
  rw [parseResponse_normal x (by omega) hb, normalStages_of_crc_eq hn hc]
  refine ⟨decodeStage_odd, fun heven => ⟨_, decodeStage_even heven, by simp, fun j hj => ?_⟩⟩
  rw [List.getElem?_map, List.getElem?_range hj]
  rfl

/-- Settles O34: stage 1 comes before any byte is read. -/
theorem lengthFloor : Obligations.LengthFloor := by
  unfold Obligations.LengthFloor
  exact fun n B x hn => parseResponse_short B x hn

/-- Settles O35: without the strict bit stage 2 makes neither check. -/
theorem exceptionWithoutStrictChecks : Obligations.ExceptionWithoutStrictChecks := by
  unfold Obligations.ExceptionWithoutStrictChecks
  intro n B hn hb
  rw [parseResponse_exception false hn hb, exceptionStage_lenient]

/-- Settles O37: stage 3 on a normal frame, with the sum a natural number. -/
theorem lengthMustMatchByteCount : Obligations.LengthMustMatchByteCount := by
  unfold Obligations.LengthMustMatchByteCount
  intro n B x hn hb hlen
  rw [parseResponse_normal x hn hb, normalStages_of_length_ne hlen]

end Sys2Proof.Machine
end

section
/-!
The parser's commands of spec/42_response.md (R150 to R153): the saturating count, the state in which RX_CLEAR and RX_PUSH
leave the result and what they frame, the result registers after a recorded outcome, and the statements settled from these.
-/

namespace Sys2Proof.Machine

theorem satSucc_toNat {k : Half} (h : k.toNat < 0xFFFF) : (satSucc k).toNat = k.toNat + 1 := by
  rw [satSucc, if_pos h, BitVec.toNat_add]
  exact Nat.mod_eq_of_lt (Nat.succ_lt_succ h)

theorem satSucc_eq_max {k : Half} (h : k.toNat = 0xFFFF) : satSucc k = 0xFFFF := by
  rw [satSucc, if_neg h.not_lt]
  exact BitVec.eq_of_toNat_eq h

theorem setWidth_zext16 (b : Byte) : (zext16 b).setWidth 32 = b.setWidth 32 := by simp [zext16]

/-- CMD_STATUS carries no result. -/
theorem readReg_markLegal_result (s : State) {r : Reg} (h : r.isResult = true) : s.markLegal.readReg r = s.readReg r :=
  s.readReg_markLegal (by rintro rfl; exact Bool.noConfusion h)

theorem resultCleared_clearResult_markLegal (s : State) : resultCleared s.clearResult.markLegal :=
  fun _ hr => (readReg_markLegal_result _ hr).trans (readReg_clearResult_result s hr)

/-- RX_CLEAR and RX_PUSH both end in a new length and a cleared result: no register but RX_LEN, those of the result and
CMD_STATUS changes, and not the port. -/
theorem setRxLen_clearResult_markLegal_frame (s : State) (n : Half) :
    keepsAllBut (fun r => r.isResult || r == .rxLen || r == .cmdStatus) s (s.setRxLen n).clearResult.markLegal ∧
      keepsPort s (s.setRxLen n).clearResult.markLegal := by
  refine ⟨fun r hr => ?_, by simp, by simp⟩
  obtain ⟨⟨hresult, hlen⟩, hstatus⟩ : (r.isResult = false ∧ r ≠ .rxLen) ∧ r ≠ .cmdStatus := by simpa using hr
  rw [State.readReg_markLegal _ hstatus, State.readReg_clearResult _ hresult, State.readReg_setRxLen _ _ hlen]

/-- A command that records an outcome changes no register but those of the result and CMD_STATUS, no byte of RX_BUF and not
the port (R152). -/
theorem recordResult_markLegal_frame (s : State) (p : ParseResult) :
    keepsAllBut (fun r => r.isResult || r == .cmdStatus) s (s.clearResult.recordResult p).markLegal ∧
      keepsBuffer s (s.clearResult.recordResult p).markLegal ∧ keepsPort s (s.clearResult.recordResult p).markLegal := by
  refine ⟨fun r hr => ?_, fun _ => by simp, by simp, by simp⟩
  obtain ⟨hresult, hstatus⟩ : r.isResult = false ∧ r ≠ .cmdStatus := by simpa using hr
  rw [State.readReg_markLegal _ hstatus, State.readReg_recordResult _ _ hresult, State.readReg_clearResult _ hresult]

/-- An outcome without data, recorded over a cleared result: its code and its two payload values (R32, R34). -/
theorem resultWords_setError (s : State) (q : RspResult) (a b : Half) :
    ResultWords (s.clearResult.setError q a b) (q.code.setWidth 32) 0 (a.setWidth 32) (b.setWidth 32) [] where
  status := rfl
  info := readReg_clearResult_result s (r := .rspInfo) rfl
  errA := rfl
  errB := rfl
  regs i := readReg_clearResult_result s (r := .rspReg i) rfl

/-- A decoded response, recorded over a cleared result: NREGS holds the number of words, and 0 stands beyond them (R33,
R35). -/
theorem resultWords_setDecoded (s : State) (a f : Byte) {regs : List Half} (h : regs.length ≤ Config.maxRegs) :
    ResultWords (s.clearResult.setDecoded a f regs) 1
      ((BitVec.ofNat 32 regs.length <<< 16) ||| (f.setWidth 32 <<< 8) ||| a.setWidth 32) 0 0 regs where
  status := rfl
  info := by
    have hlt : regs.length < 2 ^ 8 := lt_of_le_of_lt h (by decide)
    rw [← BitVec.setWidth_ofNat_of_le_of_lt (w := 8) (by decide) hlt]
    rfl
  errA := rfl
  errB := rfl
  regs i := by
    rw [State.readReg, State.setDecoded_rspReg, storeRegs_getElem]
    simp

/-- Recording an outcome that fits the registers, over a cleared result, makes them hold it (R152). -/
theorem holdsResult_recordResult (s : State) {p : ParseResult} (hfits : p.FitsRegisters) :
    holdsResult p (s.clearResult.recordResult p) := by
  cases p with
  | ok a f regs => exact resultWords_setDecoded s a f hfits
  | tooShort => exact resultWords_setError s .tooShort 0 0
  | deviceException fc ec =>
    have h := resultWords_setError s .deviceException (zext16 fc) (zext16 ec)
    rwa [setWidth_zext16, setWidth_zext16] at h
  | lengthMismatch expected actual =>
    obtain ⟨hexpected, hactual⟩ := hfits
    have h := resultWords_setError s .lengthMismatch (BitVec.ofNat 16 expected) (BitVec.ofNat 16 actual)
    rwa [BitVec.setWidth_ofNat_of_le_of_lt (by decide) hexpected,
      BitVec.setWidth_ofNat_of_le_of_lt (by decide) hactual] at h
  | checksumMismatch received computed => exact resultWords_setError s .checksumMismatch received computed
  | malformedData => exact resultWords_setError s .malformedData 0 0

/-- Settles O46: the arm writes RX_LEN, the result and CMD_STATUS, and leaves RX_BUF alone. -/
theorem rxClearEmptiesAndDiscards : Obligations.RxClearEmptiesAndDiscards := by
  unfold Obligations.RxClearEmptiesAndDiscards
  refine ⟨fun v hv => decode_of_match (op := 0x04) hv rfl, fun s => ?_⟩
  obtain ⟨hframe, hport⟩ := setRxLen_clearResult_markLegal_frame s 0
  exact ⟨_, exec_rxClear s, rfl, resultCleared_clearResult_markLegal _, rfl, hframe, fun _ => by simp, hport⟩

/-- Settles O47: the byte goes to index RX_LEN while there is room, and the count saturates. -/
theorem rxPushAppends : Obligations.RxPushAppends := by
  unfold Obligations.RxPushAppends
  refine ⟨fun v hv => decode_of_match (op := 0x05) hv rfl, fun s b => ?_⟩
  obtain ⟨hframe, hport⟩ := setRxLen_clearResult_markLegal_frame (s.storeRx s.rxLen.toNat b) (satSucc s.rxLen)
  refine ⟨_, exec_rxPush b s, fun hroom => ?_, fun i hi => ?_, fun hfull i => ?_, satSucc_toNat, satSucc_eq_max,
    resultCleared_clearResult_markLegal _, rfl, fun r hr => ?_, hport⟩
  · simpa using s.rxByte_storeRx_same b hroom
  · simpa using s.rxByte_storeRx_other b hi
  · simp [s.storeRx_beyond b hfull]
  · exact (hframe r hr).trans (s.readReg_storeRx _ b r)

/-- Settles O48: the outcome for a 16-bit length fits the registers, and it is recorded over a cleared result. -/
theorem parseRecordsOutcome : Obligations.ParseRecordsOutcome := by
  unfold Obligations.ParseRecordsOutcome
  refine ⟨fun v hv => decode_of_match (op := 0x06) hv rfl, fun s => ?_⟩
  have hfits := parseResponse_fitsRegisters s.rxByte s.excCrcChk s.rxLen.isLt
  exact ⟨_, exec_parse s,
    holdsResult_congr (holdsResult_recordResult s hfits) (fun _ hr => readReg_markLegal_result _ hr), rfl,
    recordResult_markLegal_frame s _⟩

end Sys2Proof.Machine
end

section
/-!
The control rules of spec/43_control.md (R180 to R182): which words run `illegal_command`, what the two updates of
CMD_STATUS.ILLEGAL read back and frame, and the statements settled from these.
-/

namespace Sys2Proof.Machine

/-- A word outside the command set has no effect but R181's. -/
theorem executeCommand_of_illegal {v : Word} (s : State) (h : Cmd.rsvd v ≠ 0 ∨ 7 ≤ (Cmd.opcode v).toNat) :
    executeCommand v s = .next s.markIllegal := by
  have hnone : ¬ ∃ i, decode v = .command i := by
    rw [exists_decode_eq_command_iff, not_and_or, not_lt]
    exact h
  obtain ⟨w, hw⟩ := (exists_decode_eq_illegal_iff v).mpr hnone
  rw [executeCommand, hw, illegalCommand]

theorem readReg_cmdStatus_markLegal (s : State) : s.markLegal.readReg .cmdStatus = 0 := rfl

theorem readReg_cmdStatus_markIllegal (s : State) : s.markIllegal.readReg .cmdStatus = 1 := rfl

theorem markLegal_frame (s : State) :
    keepsAllBut (· == .cmdStatus) s s.markLegal ∧ keepsBuffer s s.markLegal ∧ keepsPort s s.markLegal :=
  ⟨fun _ hr => s.readReg_markLegal (beq_eq_false_iff_ne.mp hr), fun _ => rfl, rfl, rfl⟩

theorem markIllegal_frame (s : State) :
    keepsAllBut (· == .cmdStatus) s s.markIllegal ∧ keepsBuffer s s.markIllegal ∧ keepsPort s s.markIllegal :=
  ⟨fun _ hr => s.readReg_markIllegal (beq_eq_false_iff_ne.mp hr), fun _ => rfl, rfl, rfl⟩

/-- Settles O16: CMD takes the write, the decoder refuses the word for its RSVD or its OPCODE, and `illegal_command` goes
on. -/
theorem illegalWordSetsIllegalOnly : Obligations.IllegalWordSetsIllegalOnly := by
  unfold Obligations.IllegalWordSetsIllegalOnly
  intro s v hbad
  have hwrite : busWrite s 0x004 4 v = .next s.markIllegal :=
    (busWrite_cmd s v).trans (executeCommand_of_illegal s hbad)
  exact ⟨_, hwrite, readReg_cmdStatus_markIllegal s, markIllegal_frame s⟩

/-- Settles O45: OPCODE 0x00 ignores DATA, and its arm only marks the command legal. -/
theorem nopClearsIllegalOnly : Obligations.NopClearsIllegalOnly := by
  unfold Obligations.NopClearsIllegalOnly
  refine ⟨fun v hv => decode_of_match (op := 0x00) hv rfl, fun s => ?_⟩
  exact ⟨_, exec_nop s, readReg_cmdStatus_markLegal s, markLegal_frame s⟩

end Sys2Proof.Machine
end

section
/-!
The errors of spec/60_exceptions.md (R202): what REQ_BUILD does at COUNT 0, what a recorded build frames, and the statement
settled from these.
-/

namespace Sys2Proof.Machine

theorem exec_reqBuild_of_count_eq_zero {s : State} (h : s.count = 0) :
    exec .reqBuild s = .next (s.recordBuild .rangeError).markLegal := by
  rw [exec_reqBuild, h, buildRequest_zero]

/-- A refused build reads back as two zero frame registers, RANGE_ERR and a legal command (R28, R29, R202). -/
theorem readReg_recordBuild_rangeError_markLegal (s : State) :
    (s.recordBuild .rangeError).markLegal.readReg .reqFrame0 = 0 ∧
      (s.recordBuild .rangeError).markLegal.readReg .reqFrame1 = 0 ∧
      (s.recordBuild .rangeError).markLegal.readReg .reqStatus = 2 ∧
      (s.recordBuild .rangeError).markLegal.readReg .cmdStatus = 0 :=
  ⟨rfl, rfl, rfl, rfl⟩

/-- Whatever the build's outcome, recording it changes no register but those of the request result and CMD_STATUS, no byte
of RX_BUF and not the port (R122). -/
theorem recordBuild_markLegal_frame (s : State) (b : BuildResult) :
    keepsAllBut (fun r => r.isRequestResult || r == .cmdStatus) s (s.recordBuild b).markLegal ∧
      keepsBuffer s (s.recordBuild b).markLegal ∧ keepsPort s (s.recordBuild b).markLegal := by
  refine ⟨fun r hr => ?_, fun _ => by simp, by simp, by simp⟩
  obtain ⟨hrequest, hstatus⟩ : r.isRequestResult = false ∧ r ≠ .cmdStatus := by simpa using hr
  rw [State.readReg_markLegal _ hstatus, State.readReg_recordBuild _ _ hrequest]

/-- Settles O30: at COUNT 0 the build is refused, and recording the refusal writes all three request result registers. -/
theorem reqBuildRangeErrorFailsClosed : Obligations.ReqBuildRangeErrorFailsClosed := by
  unfold Obligations.ReqBuildRangeErrorFailsClosed
  intro s hcount
  obtain ⟨hframe0, hframe1, hstatus, hlegal⟩ := readReg_recordBuild_rangeError_markLegal s
  exact ⟨_, exec_reqBuild_of_count_eq_zero hcount, hframe0, hframe1, hstatus, hlegal, recordBuild_markLegal_frame s _⟩

end Sys2Proof.Machine
end

section
/-!
The assembler of spec/30_encoding.md (R76): the word of a command has the command's OPCODE and its operand as DATA, and the
statements settled from this.
-/

namespace Sys2Proof

/-- An assembled word decodes to what its OPCODE selects with its DATA. -/
theorem decode_cmdWord {op data : Byte} {i : Instr} (h : commandOf op data = some i) :
    decode (cmdWord op data) = .command i := by
  rw [decode_eq_command_iff, opcode_cmdWord, data_cmdWord]
  exact ⟨rsvd_cmdWord op data, h⟩

/-- The word of a command is assembled from an OPCODE and a DATA that select it (R72, R76). -/
theorem encode_eq_cmdWord (i : Instr) : ∃ op data, encode i = cmdWord op data ∧ commandOf op data = some i := by
  cases i <;> exact ⟨_, _, rfl, rfl⟩

theorem decode_encode (i : Instr) : decode (encode i) = .command i := by
  obtain ⟨op, data, hword, hcmd⟩ := encode_eq_cmdWord i
  rw [hword, decode_cmdWord hcmd]

/-- Settles O1: the three fields of an assembled word are read back, and they select the command. -/
theorem decodeEncodeRoundTrip : Obligations.DecodeEncodeRoundTrip := by
  unfold Obligations.DecodeEncodeRoundTrip
  exact fun i _ => decode_encode i

/-- Settles O5: each word is evaluated by the decoder. -/
theorem sampleWordsDecode : Obligations.SampleWordsDecode := by
  unfold Obligations.SampleWordsDecode
  decide

end Sys2Proof
end

section
/-!
What crc16 detects (spec/40_crc.md R107): eight shifts of a word whose low byte is clear move the high byte down, so a
sequence's own CRC cancels the accumulator; and a changed byte changes every later accumulator. The statements settled from
these.
-/

namespace Sys2Proof.Machine

/-- While the bits that leave are 0 there is no feedback: the shifts are plain shifts. -/
theorem lfsrStep_iterate_of_low_zero {k : Nat} {c : Half} (h : ∀ i, i < k → c.getLsbD i = false) :
    lfsrStep^[k] c = c >>> k := by
  induction k generalizing c with
  | zero => simp
  | succ k ih =>
    have hstep : lfsrStep c = c >>> 1 := lfsrStep_even ((and_one_eq_zero_iff c).mpr (h 0 k.succ_pos))
    have hlow : ∀ i, i < k → (c >>> 1).getLsbD i = false := by
      intro i hi
      rw [BitVec.getLsbD_ushiftRight]
      exact h (1 + i) (by omega)
    rw [Function.iterate_succ_apply, hstep, ih hlow, ← BitVec.shiftRight_add, Nat.add_comm]

/-- Folding in the accumulator's own low byte leaves its high byte. -/
theorem crcByte_loByte (c : Half) : crcByte c (loByte c) = zext16 (hiByte c) := by
  have hlow : ∀ i, i < 8 → (c ^^^ zext16 (loByte c)).getLsbD i = false := by
    intro i hi
    have h16 : i < 16 := by omega
    simp [zext16, loByte, hi, h16]
  rw [crcByte, lfsrStep_iterate_of_low_zero hlow]
  ext i hi
  by_cases h8 : i < 8
  · simp [zext16, loByte, hiByte, h8]
  · have hge : 16 ≤ 8 + i := by omega
    simp [zext16, hge, BitVec.getLsbD_of_ge (hiByte c) i (by omega)]

/-- Folding in the byte that the accumulator holds clears it. -/
theorem crcByte_zext16_self (b : Byte) : crcByte (zext16 b) b = 0 := by
  rw [crcByte, BitVec.xor_self, lfsrStep_iterate_of_low_zero (by simp)]
  simp

/-- Accumulators that differ still differ after any bytes. -/
theorem foldl_crcByte_injective (ys : List Byte) : Function.Injective (ys.foldl crcByte) := by
  induction ys with
  | nil => exact Function.injective_id
  | cons y ys ih => exact ih.comp (crcByte_left_injective y)

/-- Settles O27: the low byte of the CRC leaves the high byte in the accumulator, and the high byte clears it. -/
theorem crcResidueIsZero : Obligations.CrcResidueIsZero := by
  unfold Obligations.CrcResidueIsZero
  intro d
  calc crc16 (d ++ [loByte (crc16 d), hiByte (crc16 d)])
      = crcByte (crcByte (crc16 d) (loByte (crc16 d))) (hiByte (crc16 d)) := crc16_append _ _
    _ = crcByte (zext16 (hiByte (crc16 d))) (hiByte (crc16 d)) := by rw [crcByte_loByte]
    _ = 0 := crcByte_zext16_self _

/-- Settles O28: the accumulators differ right after the changed byte, and the bytes after it keep them apart. -/
theorem crcDetectsOneChangedByte : Obligations.CrcDetectsOneChangedByte := by
  unfold Obligations.CrcDetectsOneChangedByte
  intro xs ys b c hne heq
  rw [crc16_append, crc16_append] at heq
  have hbyte : crcByte (crc16 xs) b = crcByte (crc16 xs) c := foldl_crcByte_injective ys heq
  exact hne (crcByte_right_injective _ hbyte)

end Sys2Proof.Machine
end

section
/-!
Frames given to the pipeline (spec/30_encoding.md R80 to R82, spec/42_response.md R156): the bytes of a laid out frame as the
parser indexes them, its CRC as the parser checks it, the bytes an outcome depends on, and the statements settled from
these.
-/

namespace Sys2Proof.Machine

/-- The bytes before the CRC of a frame, as the parser's CRC takes them, are the body. -/
theorem map_frameAt_withCrc (body : List Byte) : (List.range body.length).map (frameAt (withCrc body)) = body := by
  refine List.ext_getElem (by simp) fun i _ hi => ?_
  rw [List.getElem_map, List.getElem_range, frameAt_withCrc_of_lt hi, frameAt, List.getD_eq_getElem _ _ hi]

/-- A frame's own CRC passes stage 4 (R146, R147): at the frame's length the last two bytes are the CRC of the others. -/
theorem leWord_eq_crc16_withCrc {n : Nat} {body : List Byte} (hn : n = body.length + 2) :
    leWord (frameAt (withCrc body) (n - 2)) (frameAt (withCrc body) (n - 1)) =
      crc16 ((List.range (n - 2)).map (frameAt (withCrc body))) := by
  have hlow : n - 2 = body.length := by omega
  have hhigh : n - 1 = body.length + 1 := by omega
  rw [hlow, hhigh, map_frameAt_withCrc, leWord_frameAt_withCrc]

/-- Bit 7 of a byte, which makes a function code an exception's (R143), on the number. -/
theorem and_0x80_eq_zero_iff : ∀ f : Byte, f &&& 0x80 = 0 ↔ f.toNat < 0x80 := by decide

theorem or_0x80_and_0x80_ne_zero : ∀ f : Byte, (f ||| 0x80) &&& 0x80 ≠ 0 := by decide

/-- The function code comes back from an exception response's byte 1 (R82, R143). -/
theorem or_0x80_and_0x7F : ∀ f : Byte, f &&& 0x80 = 0 → (f ||| 0x80) &&& 0x7F = f := by decide

theorem hiByte_toNat (w : Half) : (hiByte w).toNat = w.toNat / 256 := by
  have hlt : w.toNat < 2 ^ 16 := w.isLt
  simp only [hiByte, BitVec.extractLsb'_toNat, Nat.shiftRight_eq_div_pow]
  omega

/-- Settles O32: the CRC follows the six body bytes, low byte first. -/
theorem requestCrcRoundTrip : Obligations.RequestCrcRoundTrip := by
  unfold Obligations.RequestCrcRoundTrip
  intro s f st n r hr
  obtain ⟨-, rfl⟩ := buildRequest_eq_frame_iff.mp hr
  have hbody : (withCrc (requestBody s f st n)).take 6 = requestBody s f st n := rfl
  rw [hbody]
  exact (leWord_frameAt_withCrc (requestBody s f st n)).symm

/-- Settles O33: a request has 8 bytes, a good CRC, FUNC as byte 1 and START's high byte as byte 2; the only byte count of
consistent length is 3, which is odd. -/
theorem requestIsNoResponse : Obligations.RequestIsNoResponse := by
  unfold Obligations.RequestIsNoResponse
  intro s f st n r x hr
  obtain ⟨-, rfl⟩ := buildRequest_eq_frame_iff.mp hr
  have hfunc : frameAt (withCrc (requestBody s f st n)) 1 = f := frameAt_withCrc_of_lt (by simp)
  have hbyte : frameAt (withCrc (requestBody s f st n)) 2 = hiByte st := frameAt_withCrc_of_lt (by simp)
  have hcount : (frameAt (withCrc (requestBody s f st n)) 2).toNat = st.toNat / 256 := by rw [hbyte, hiByte_toNat]
  have hbit : frameAt (withCrc (requestBody s f st n)) 1 &&& 0x80 = 0 ↔ f.toNat < 0x80 := by
    rw [hfunc, and_0x80_eq_zero_iff]
  have hcrc := leWord_eq_crc16_withCrc (n := 8) (body := requestBody s f st n) rfl
  refine ⟨fun hf h3 => ?_, fun hf h3 => ?_, fun hf => ?_, fun hf => ?_⟩
  · rw [parseResponse_normal x (by decide) (hbit.mpr hf), normalStages_of_length_ne (by omega), hcount]
  · rw [parseResponse_normal x (by decide) (hbit.mpr hf), normalStages_of_crc_eq (by omega) hcrc,
      decodeStage_odd (by omega)]
  · rw [parseResponse_exception false (by decide) (hbit.not.mpr hf.not_gt), exceptionStage_lenient, hfunc, hbyte]
    rfl
  · rw [parseResponse_exception true (by decide) (hbit.not.mpr hf.not_gt), exceptionStage_strict_of_ne _ (by decide)]

/-- Settles O42: byte 1 has bit 7 set, and the strict checks find length 5 and the CRC of the three bytes before it. -/
theorem exceptionFrameParsesBack : Obligations.ExceptionFrameParsesBack := by
  unfold Obligations.ExceptionFrameParsesBack
  intro addr fc ec x hfc
  have hlen : (exceptionFrame addr fc ec).length = 5 := rfl
  have hfunc : frameAt (exceptionFrame addr fc ec) 1 = fc ||| 0x80 := rfl
  have hcode : frameAt (exceptionFrame addr fc ec) 2 = ec := rfl
  have hcrc : leWord (frameAt (exceptionFrame addr fc ec) 3) (frameAt (exceptionFrame addr fc ec) 4) =
      crc16 [frameAt (exceptionFrame addr fc ec) 0, frameAt (exceptionFrame addr fc ec) 1,
        frameAt (exceptionFrame addr fc ec) 2] := leWord_frameAt_withCrc [addr, fc ||| 0x80, ec]
  rw [hlen, parseResponse_exception x le_rfl (by rw [hfunc]; exact or_0x80_and_0x80_ne_zero fc)]
  cases x with
  | false => rw [exceptionStage_lenient, hfunc, hcode, or_0x80_and_0x7F fc hfc]
  | true => rw [exceptionStage_strict_five, if_pos hcrc, hfunc, hcode, or_0x80_and_0x7F fc hfc]

theorem length_registerData (regs : List Half) : (registerData regs).length = 2 * regs.length := by
  induction regs with
  | nil => rfl
  | cons w ws ih => simp [registerData] at ih ⊢; omega

/-- The two bytes of each register, high byte first, are the register (R81). -/
theorem beWord_registerData {regs : List Half} {j : Nat} (hj : j < regs.length) :
    beWord ((registerData regs).getD (2 * j) 0) ((registerData regs).getD (2 * j + 1) 0) = regs[j] := by
  induction regs generalizing j with
  | nil => exact absurd hj (Nat.not_lt_zero j)
  | cons w ws ih =>
    have hdata : registerData (w :: ws) = hiByte w :: loByte w :: registerData ws := rfl
    cases j with
    | zero => simp [hdata]
    | succ j => simpa [hdata, Nat.mul_succ] using ih (Nat.lt_of_succ_lt_succ hj)

/-- The body of a normal response (R81): address, function code, byte count and data. -/
def responseBody (addr fc : Byte) (regs : List Half) : List Byte :=
  addr :: fc :: BitVec.ofNat 8 (2 * regs.length) :: registerData regs

theorem responseFrame_eq_withCrc (addr fc : Byte) (regs : List Half) :
    responseFrame addr fc regs = withCrc (responseBody addr fc regs) := rfl

theorem length_responseBody (addr fc : Byte) (regs : List Half) :
    (responseBody addr fc regs).length = 3 + 2 * regs.length := by
  simp [responseBody, length_registerData]
  omega

/-- Register `j` of a normal response stands at bytes 3 + 2j and 4 + 2j of the frame. -/
theorem beWord_frameAt_responseBody (addr fc : Byte) {regs : List Half} {j : Nat} (hj : j < regs.length) :
    beWord (frameAt (withCrc (responseBody addr fc regs)) (3 + 2 * j))
      (frameAt (withCrc (responseBody addr fc regs)) (4 + 2 * j)) = regs[j] := by
  have hlen := length_responseBody addr fc regs
  rw [frameAt_withCrc_of_lt (by omega), frameAt_withCrc_of_lt (by omega), ← beWord_registerData hj]
  have hhigh : 3 + 2 * j = 2 * j + 1 + 1 + 1 := by omega
  have hlow : 4 + 2 * j = 2 * j + 1 + 1 + 1 + 1 := by omega
  rw [hhigh, hlow]
  rfl

/-- Settles O41: the byte count fits its byte, so the length is consistent, the CRC is the frame's own, and the data section
gives the registers back in order. -/
theorem responseFrameParsesBack : Obligations.ResponseFrameParsesBack := by
  unfold Obligations.ResponseFrameParsesBack
  intro addr fc regs x hfc hregs
  have haddr : frameAt (responseFrame addr fc regs) 0 = addr := rfl
  have hfunc : frameAt (responseFrame addr fc regs) 1 = fc := rfl
  have hcount : (frameAt (responseFrame addr fc regs) 2).toNat = 2 * regs.length := Nat.mod_eq_of_lt (by omega)
  have hbody : (responseFrame addr fc regs).length = (responseBody addr fc regs).length + 2 := by
    rw [responseFrame_eq_withCrc, length_withCrc]
  have hlen : (responseFrame addr fc regs).length = 5 + (frameAt (responseFrame addr fc regs) 2).toNat := by
    rw [hcount, hbody, length_responseBody]
    omega
  have hcrc := leWord_eq_crc16_withCrc hbody
  rw [parseResponse_normal x (by omega) (by rwa [hfunc]), normalStages_of_crc_eq hlen hcrc, decodeStage_even (by omega),
    haddr, hfunc, hcount]
  congr 1
  refine List.ext_getElem (by simp) fun j _ hj => ?_
  rw [List.getElem_map, List.getElem_range]
  exact beWord_frameAt_responseBody addr fc hj

/-- The registers stage 5 decodes lie below the length that the byte count gives. -/
theorem decodeStage_congr {B C : Nat → Byte} (h : ∀ i, i < 3 + (B 2).toNat → B i = C i) :
    decodeStage B = decodeStage C := by
  have h2 : B 2 = C 2 := h 2 (by omega)
  unfold decodeStage
  rw [← h 0 (by omega), ← h 1 (by omega), ← h2]
  congr 2
  refine List.map_congr_left fun j hj => ?_
  have hlt := List.mem_range.mp hj
  rw [h (3 + 2 * j) (by omega), h (4 + 2 * j) (by omega)]

/-- Stages 3 to 5 look at byte 2 first, and go on only at a length of at most 260, where every byte below it is stored. -/
theorem normalStages_congr {n : Nat} {B C : Nat → Byte} (hn : 5 ≤ n) (h : ∀ i, i < min n 260 → B i = C i) :
    normalStages n B = normalStages n C := by
  have h2 : B 2 = C 2 := h 2 (by omega)
  have hcount : (B 2).toNat < 2 ^ 8 := (B 2).isLt
  by_cases hlen : n = 5 + (B 2).toNat
  · have hspan : span B 0 (n - 2) = span C 0 (n - 2) := span_congr fun i _ hi => h i (by omega)
    unfold normalStages
    rw [← h2, ← hspan, ← h (n - 2) (by omega), ← h (n - 1) (by omega), decodeStage_congr fun i hi => h i (by omega)]
  · rw [normalStages_of_length_ne hlen, normalStages_of_length_ne (h2 ▸ hlen), h2]

theorem exceptionStage_congr {n : Nat} {B C : Nat → Byte} (x : Bool) (h : ∀ i, i < 5 → B i = C i) :
    exceptionStage n B x = exceptionStage n C x := by
  have hspan : span B 0 3 = span C 0 3 := span_congr fun i _ hi => h i (by omega)
  unfold exceptionStage
  rw [hspan, h 1 (by decide), h 2 (by decide), h 3 (by decide), h 4 (by decide)]

/-- Settles O43: below length 5 no byte is read; from there each stage reads stored bytes only. -/
theorem parseReadsOnlyStoredBytes : Obligations.ParseReadsOnlyStoredBytes := by
  unfold Obligations.ParseReadsOnlyStoredBytes
  intro n B C x h
  obtain hshort | hlong : n < 5 ∨ 5 ≤ n := lt_or_ge n 5
  · rw [parseResponse_short B x hshort, parseResponse_short C x hshort]
  · have h1 : B 1 = C 1 := h 1 (by omega)
    by_cases hb : B 1 &&& 0x80 = 0
    · rw [parseResponse_normal x hlong hb, parseResponse_normal x hlong (h1 ▸ hb), normalStages_congr hlong h]
    · rw [parseResponse_exception x hlong hb, parseResponse_exception x hlong (h1 ▸ hb),
        exceptionStage_congr x fun i hi => h i (by omega)]

end Sys2Proof.Machine
end

section
/-!
What Ok means and what it rules out (spec/42_response.md R153, R158): the frames that are accepted, the stage that finds a
changed byte of one, and the statements settled from these.
-/

namespace Sys2Proof.Machine

/-- What holds of an accepted frame: bit 7 of byte 1 clear, a consistent length with an even byte count, and its own CRC. -/
structure AcceptedFrame (n : Nat) (B : Nat → Byte) : Prop where
  normal : B 1 &&& 0x80 = 0
  length : n = 5 + (B 2).toNat
  even : (B 2).toNat % 2 = 0
  crc : leWord (B (n - 2)) (B (n - 1)) = crc16 ((List.range (n - 2)).map B)

theorem exceptionStage_ne_ok (n : Nat) (B : Nat → Byte) (x : Bool) (a f : Byte) (regs : List Half) :
    exceptionStage n B x ≠ .ok a f regs := by
  cases x with
  | false =>
    rw [exceptionStage_lenient]
    exact ParseResult.noConfusion
  | true =>
    by_cases h5 : n = 5
    · rw [h5, exceptionStage_strict_five]
      split <;> exact ParseResult.noConfusion
    · rw [exceptionStage_strict_of_ne B h5]
      exact ParseResult.noConfusion

/-- Stages 3 to 5 answer Ok only at the end, with half as many words as the byte count (R148). -/
theorem normalStages_ok {n : Nat} {B : Nat → Byte} {a f : Byte} {regs : List Half}
    (h : normalStages n B = .ok a f regs) :
    n = 5 + (B 2).toNat ∧ leWord (B (n - 2)) (B (n - 1)) = crc16 ((List.range (n - 2)).map B) ∧
      (B 2).toNat % 2 = 0 ∧ regs.length = (B 2).toNat / 2 := by
  obtain ⟨-, hlen⟩ | ⟨-, -, hcrc⟩ | ⟨hlen, hcrc, hdecode⟩ := normalStages_cases n B
  · exact ParseResult.noConfusion (hlen.symm.trans h)
  · exact ParseResult.noConfusion (hcrc.symm.trans h)
  · rw [span_zero] at hcrc
    obtain ⟨-, hodd⟩ | ⟨heven, hok⟩ := decodeStage_cases B
    · exact ParseResult.noConfusion (hodd.symm.trans (hdecode.symm.trans h))
    · obtain ⟨-, -, rfl⟩ := ParseResult.ok.inj (hok.symm.trans (hdecode.symm.trans h))
      exact ⟨hlen, hcrc, heven, by simp⟩

theorem parseResponse_ok {n : Nat} {B : Nat → Byte} {x : Bool} {a f : Byte} {regs : List Half}
    (h : parseResponse n B x = .ok a f regs) : AcceptedFrame n B ∧ regs.length = (B 2).toNat / 2 := by
  obtain hshort | hlong : n < 5 ∨ 5 ≤ n := lt_or_ge n 5
  · exact ParseResult.noConfusion ((parseResponse_short B x hshort).symm.trans h)
  · by_cases hb : B 1 &&& 0x80 = 0
    · obtain ⟨hlen, hcrc, heven, hregs⟩ := normalStages_ok ((parseResponse_normal x hlong hb).symm.trans h)
      exact ⟨⟨hb, hlen, heven, hcrc⟩, hregs⟩
    · exact absurd ((parseResponse_exception x hlong hb).symm.trans h) (exceptionStage_ne_ok n B x a f regs)

/-- Settles O40: the bounds follow from the byte count, which is at most 255. -/
theorem okOnlyForValidFrame : Obligations.OkOnlyForValidFrame := by
  unfold Obligations.OkOnlyForValidFrame
  intro n B x a f regs h
  obtain ⟨⟨hnormal, hlen, heven, hcrc⟩, hregs⟩ := parseResponse_ok h
  have hcount : (B 2).toNat < 2 ^ 8 := (B 2).isLt
  exact ⟨hnormal, hlen, by omega, heven, by omega, hcrc⟩

/-- The bytes up to an index inside, the byte there, and the bytes after it. -/
theorem map_range_split (B : Nat → Byte) {j m : Nat} (hj : j < m) :
    (List.range m).map B = span B 0 j ++ B j :: span B (j + 1) m := by
  obtain ⟨d, rfl⟩ : ∃ d, m = j + (d + 1) := ⟨m - j - 1, by omega⟩
  have hd : j + (d + 1) - (j + 1) = d := by omega
  rw [span_zero, span, hd, List.range_eq_range', List.range_eq_range', ← List.range'_append_1, Nat.zero_add,
    List.range'_succ, List.map_append, List.map_cons]

/-- A byte changed anywhere in a sequence changes its CRC. -/
theorem crc16_ne_of_byte_ne {B C : Nat → Byte} {j m : Nat} (hj : j < m) (hne : B j ≠ C j)
    (hother : ∀ i, i ≠ j → B i = C i) : crc16 ((List.range m).map B) ≠ crc16 ((List.range m).map C) := by
  have hbefore : span B 0 j = span C 0 j := span_congr fun i _ hi => hother i hi.ne
  have hafter : span B (j + 1) m = span C (j + 1) m := span_congr fun i hi _ => hother i (by omega)
  rw [map_range_split B hj, map_range_split C hj, hbefore, hafter]
  exact crcDetectsOneChangedByte _ _ _ _ hne

/-- An accepted frame with any byte changed fails stage 4, as long as the change leaves it a normal frame of the same byte
count. -/
theorem parseResponse_of_changed_byte {n j : Nat} {B C : Nat → Byte} (x : Bool) (hB : AcceptedFrame n B) (hj : j < n)
    (hne : C j ≠ B j) (hother : ∀ i, i ≠ j → C i = B i) (hnormal : C 1 &&& 0x80 = 0) (hcount : C 2 = B 2) :
    ∃ rc cc, parseResponse n C x = .checksumMismatch rc cc := by
  have hlen : n = 5 + (C 2).toNat := hcount ▸ hB.length
  have hcrc : leWord (C (n - 2)) (C (n - 1)) ≠ crc16 ((List.range (n - 2)).map C) := by
    by_cases hbody : j < n - 2
    · rw [hother (n - 2) (by omega), hother (n - 1) (by omega), hB.crc]
      exact (crc16_ne_of_byte_ne hbody hne hother).symm
    · have hsame : (List.range (n - 2)).map C = (List.range (n - 2)).map B :=
        List.map_congr_left fun i hi => hother i (by have := List.mem_range.mp hi; omega)
      rw [hsame, ← hB.crc, ne_eq, leWord_inj]
      rintro ⟨hlow, hhigh⟩
      obtain rfl | rfl : j = n - 2 ∨ j = n - 1 := by omega
      · exact hne hlow
      · exact hne hhigh
  exact ⟨_, _, by rw [parseResponse_normal x (by omega) hnormal, normalStages_of_crc_ne hlen hcrc]⟩

theorem flipBit_same (B : Nat → Byte) (j k : Nat) : flipBit B j k j = B j ^^^ (1#8 <<< k) := if_pos rfl

theorem flipBit_other (B : Nat → Byte) {i j : Nat} (k : Nat) (h : i ≠ j) : flipBit B j k i = B i := if_neg h

theorem xor_bit_ne : ∀ (b : Byte) (k : Fin 8), b ^^^ (1#8 <<< k.val) ≠ b := by decide

/-- Only a flip of bit 7 changes bit 7. -/
theorem xor_bit_and_0x80 : ∀ (b : Byte) (k : Fin 8), k.val ≠ 7 → (b ^^^ (1#8 <<< k.val)) &&& 0x80 = b &&& 0x80 := by
  decide

/-- A flip of bit 7 where it is clear sets it and keeps the other seven. -/
theorem xor_bit7 : ∀ b : Byte, b &&& 0x80 = 0 → (b ^^^ (1#8 <<< 7)) &&& 0x80 ≠ 0 ∧
    (b ^^^ (1#8 <<< 7)) &&& 0x7F = b &&& 0x7F := by decide

theorem flipBit_ne (B : Nat → Byte) (j : Nat) {k : Nat} (hk : k < 8) : flipBit B j k j ≠ B j := by
  rw [flipBit_same]
  exact xor_bit_ne (B j) ⟨k, hk⟩

/-- A flip in byte 2 of an accepted frame is found by stage 3. -/
theorem parseResponse_flip_byteCount {n k : Nat} {B : Nat → Byte} (x : Bool) (hB : AcceptedFrame n B) (hk : k < 8) :
    5 + (B 2 ^^^ (1#8 <<< k)).toNat ≠ n ∧
      parseResponse n (flipBit B 2 k) x = .lengthMismatch (5 + (B 2 ^^^ (1#8 <<< k)).toNat) n := by
  have hchanged : (flipBit B 2 k 2).toNat ≠ (B 2).toNat := BitVec.toNat_inj.not.mpr (flipBit_ne B 2 hk)
  have hnormal : flipBit B 2 k 1 &&& 0x80 = 0 := by rw [flipBit_other B k (by decide), hB.normal]
  have hlen := hB.length
  rw [← flipBit_same]
  exact ⟨by omega, by rw [parseResponse_normal x (by omega) hnormal, normalStages_of_length_ne (by omega)]⟩

/-- An accepted frame of length 5 has the CRC of its first three bytes, so with bit 7 of byte 1 flipped it has not. -/
theorem crc_ne_of_flip_functionCode {B : Nat → Byte} (hB : AcceptedFrame 5 B) :
    leWord (flipBit B 1 7 3) (flipBit B 1 7 4) ≠ crc16 [flipBit B 1 7 0, flipBit B 1 7 1, flipBit B 1 7 2] := by
  have hcrc : leWord (B 3) (B 4) = crc16 ((List.range 3).map B) := hB.crc
  rw [flipBit_other B 7 (by decide), flipBit_other B 7 (by decide), hcrc]
  exact (crc16_ne_of_byte_ne (m := 3) (by decide) (flipBit_ne B 1 (by decide))
    fun i hi => flipBit_other B 7 hi).symm

/-- Settles O44: a flip in byte 2 is found by the length, bit 7 of byte 1 turns the frame into an exception's, and every other
flip is found by the CRC. -/
theorem singleBitFlipIsDetected : Obligations.SingleBitFlipIsDetected := by
  unfold Obligations.SingleBitFlipIsDetected
  intro n B x a f regs h j k hj hk
  obtain ⟨hB, -⟩ := parseResponse_ok h
  have hlong : 5 ≤ n := by have := hB.length; omega
  refine ⟨?_, ?_, fun hj2 hjk => ?_⟩
  · rintro rfl
    exact ⟨_, rfl, parseResponse_flip_byteCount x hB hk⟩
  · rintro rfl rfl
    obtain ⟨hset, hcode⟩ := xor_bit7 (B 1) hB.normal
    rw [← flipBit_same] at hset hcode
    refine ⟨?_, ?_, ?_⟩
    · rintro rfl
      rw [parseResponse_exception false hlong hset, exceptionStage_lenient, hcode, flipBit_other B 7 (by decide)]
    · rintro rfl hn
      rw [parseResponse_exception true hlong hset, exceptionStage_strict_of_ne _ hn]
    · rintro rfl rfl
      rw [parseResponse_exception true hlong hset, exceptionStage_strict_five,
        if_neg (crc_ne_of_flip_functionCode hB)]
      exact ⟨_, _, rfl⟩
  · refine parseResponse_of_changed_byte x hB hj (flipBit_ne B j hk) (fun i hi => flipBit_other B k hi) ?_
      (flipBit_other B k hj2.symm)
    by_cases hj1 : j = 1
    · subst hj1
      rw [flipBit_same, xor_bit_and_0x80 (B 1) ⟨k, hk⟩ (fun hk7 => hjk ⟨rfl, hk7⟩), hB.normal]
    · rw [flipBit_other B k (Ne.symm hj1), hB.normal]

end Sys2Proof.Machine
end

section
/-!
Commands one after another (spec/40_crc.md R105, spec/41_request.md R122, spec/42_response.md R154 to R157): every command
goes on, what a list of commands leaves in CRC.VALUE and in the receive buffer, and the statements settled from these.
-/

namespace Sys2Proof.Machine

/-- Every command has its effect from every state (R208). -/
theorem exists_exec_eq_next (i : Instr) (s : State) : ∃ t, exec i s = .next t := by
  cases i <;> exact ⟨_, rfl⟩

theorem runCommands_append {is js : List Instr} {s t : State} (h : runCommands is s = .next t) :
    runCommands (is ++ js) s = runCommands js t := by
  induction is generalizing s with
  | nil =>
    cases h
    rfl
  | cons i is ih =>
    obtain ⟨u, hu⟩ := exists_exec_eq_next i s
    rw [runCommands_of_exec hu] at h
    rw [List.cons_append, runCommands_of_exec hu, ih h]

/-- A command that is no CRC_INIT folds its operand into CRC.VALUE if it is a CRC_BYTE, and else leaves it alone (R105). -/
theorem exec_crc {i : Instr} {s t : State} (hi : i ≠ .crcInit) (h : exec i s = .next t) :
    t.crc = (crcOperands [i]).foldl crcByte s.crc := by
  cases i with
  | crcInit => exact absurd rfl hi
  | reqBuild =>
    cases h
    exact State.recordBuild_crc s _
  | parse =>
    cases h
    exact State.recordResult_crc s.clearResult _
  | nop | crcByte b | rxClear | rxPush b =>
    cases h
    rfl

theorem crcOperands_cons (i : Instr) (is : List Instr) : crcOperands (i :: is) = crcOperands [i] ++ crcOperands is := by
  cases i <;> rfl

theorem crcOperands_map_crcByte (bs : List Byte) : crcOperands (bs.map .crcByte) = bs := by
  induction bs with
  | nil => rfl
  | cons b bs ih => rw [List.map_cons, crcOperands, ih]

/-- With no CRC_INIT among them, commands fold the CRC_BYTE operands into CRC.VALUE in order (R105). -/
theorem runCommands_crc {is : List Instr} (s : State) (his : Instr.crcInit ∉ is) :
    ∃ t, runCommands is s = .next t ∧ t.crc = (crcOperands is).foldl crcByte s.crc := by
  induction is generalizing s with
  | nil => exact ⟨s, rfl, rfl⟩
  | cons i is ih =>
    obtain ⟨hi, htail⟩ : Instr.crcInit ≠ i ∧ Instr.crcInit ∉ is := by simpa using his
    obtain ⟨u, hu⟩ := exists_exec_eq_next i s
    obtain ⟨t, ht, hcrc⟩ := ih u htail
    refine ⟨t, (runCommands_of_exec hu).trans ht, ?_⟩
    rw [hcrc, exec_crc hi.symm hu, crcOperands_cons i is, List.foldl_append]

theorem readReg_crc (s : State) : s.readReg .crc = s.crc.setWidth 32 := rfl

/-- Settles O25: CRC_INIT leaves the seed, from which `crc16` starts. -/
theorem crcRegisterComputesCrc16 : Obligations.CrcRegisterComputesCrc16 := by
  unfold Obligations.CrcRegisterComputesCrc16
  intro is s his
  obtain ⟨t, ht, hcrc⟩ := runCommands_crc (s.setCrc crcSeed).markLegal his
  refine ⟨t, (runCommands_of_exec (exec_crcInit s)).trans ht, ?_⟩
  rw [readReg_crc, hcrc]
  rfl

/-- Settles O8: the reset state's accumulator is the seed, its buffer is empty and its COUNT is 0. -/
theorem usableStraightAfterReset : Obligations.UsableStraightAfterReset := by
  unfold Obligations.UsableStraightAfterReset
  refine ⟨fun bs => ?_, ⟨_, exec_parse _, rfl⟩, ⟨_, exec_reqBuild_of_count_eq_zero rfl, rfl⟩⟩
  obtain ⟨t, ht, hcrc⟩ := runCommands_crc (is := bs.map .crcByte) State.reset (by simp)
  refine ⟨t, ht, ?_⟩
  rw [readReg_crc, hcrc, crcOperands_map_crcByte]
  rfl

theorem hiByte_append_loByte (w : Half) : hiByte w ++ loByte w = w :=
  (BitVec.extractLsb'_append_extractLsb'_eq_extractLsb' rfl).trans BitVec.extractLsb'_eq_self

/-- The two frame registers of a built request: the body's bytes in order from the low end, then the CRC (R29, R80). -/
theorem frameWord_request (s f : Byte) (st n : Half) :
    frameWord (withCrc (requestBody s f st n)) 0 = loByte st ++ hiByte st ++ f ++ s ∧
      frameWord (withCrc (requestBody s f st n)) 1 = crc16 (requestBody s f st n) ++ loByte n ++ hiByte n := by
  refine ⟨packWord_append _ _ _ _, (packWord_append _ _ _ _).trans ?_⟩
  have hcrc := hiByte_append_loByte (crc16 (requestBody s f st n))
  exact congrArg (fun c : Half => c ++ loByte n ++ hiByte n) hcrc

/-- Settles O29: with COUNT not 0 the build answers the body under its CRC, and recording it writes the request result. -/
theorem reqBuildFramesRequest : Obligations.ReqBuildFramesRequest := by
  unfold Obligations.ReqBuildFramesRequest
  refine ⟨fun v hv => decode_of_match (op := 0x03) hv rfl, fun s hcount => ?_⟩
  obtain ⟨hframe0, hframe1⟩ := frameWord_request s.slave s.func s.start s.count
  have hexec := exec_reqBuild s
  rw [buildRequest_of_ne_zero _ _ _ hcount] at hexec
  exact ⟨_, _, hexec, rfl, hframe0, hframe1, rfl, rfl, recordBuild_markLegal_frame s _⟩

/-- Recording an outcome over a cleared result does not depend on the earlier result (R39, R153). -/
theorem clearResult_recordResult_idem (s : State) (p : ParseResult) :
    (s.clearResult.recordResult p).markLegal.clearResult.recordResult p = (s.clearResult.recordResult p).markLegal := by
  cases p <;> rfl

/-- Settles O49: PARSE leaves its three inputs, so the second one records the same outcome. -/
theorem parseIsIdempotent : Obligations.ParseIsIdempotent := by
  unfold Obligations.ParseIsIdempotent
  intro s t h
  obtain rfl : _ = t := Host.Outcome.next.inj ((exec_parse s).symm.trans h)
  rw [exec_parse]
  simp only [State.markLegal_rxLen, State.markLegal_excCrcChk, State.rxByte_markLegal, State.recordResult_rxLen,
    State.recordResult_excCrcChk, State.rxByte_recordResult, State.clearResult_rxLen, State.clearResult_excCrcChk,
    State.rxByte_clearResult, clearResult_recordResult_idem]
  rfl

theorem ResultWords.unique {s t : State} {status info errA errB : Word} {regs : List Half}
    (hs : ResultWords s status info errA errB regs) (ht : ResultWords t status info errA errB regs) {r : Reg}
    (hr : r.isResult = true) : s.readReg r = t.readReg r := by
  cases r with
  | rspStatus => exact hs.status.trans ht.status.symm
  | rspInfo => exact hs.info.trans ht.info.symm
  | rspErrA => exact hs.errA.trans ht.errA.symm
  | rspErrB => exact hs.errB.trans ht.errB.symm
  | rspReg i => exact (hs.regs i).trans (ht.regs i).symm
  | _ => exact Bool.noConfusion hr

/-- An outcome fixes what every result register reads. -/
theorem holdsResult_unique {s t : State} {p : ParseResult} (hs : holdsResult p s) (ht : holdsResult p t) {r : Reg}
    (hr : r.isResult = true) : s.readReg r = t.readReg r := by
  cases p <;> exact ResultWords.unique hs ht hr

/-- After PARSE the result registers hold the pipeline's outcome for the state it ran in (R152). -/
theorem holdsResult_of_exec_parse {s t : State} (h : exec .parse s = .next t) :
    holdsResult (parseResponse s.rxLen.toNat s.rxByte s.excCrcChk) t := by
  obtain ⟨u, hu, hresult, -⟩ := parseRecordsOutcome.2 s
  obtain rfl : u = t := Host.Outcome.next.inj (hu.symm.trans h)
  exact hresult

/-- Settles O51: the outcome is the pipeline's for the three inputs, and it fixes the result registers. -/
theorem parseUsesItsInputsAlone : Obligations.ParseUsesItsInputsAlone := by
  unfold Obligations.ParseUsesItsInputsAlone
  intro s t s' t' hlen hbuf hstrict hs ht r hr
  have hbyte : s.rxByte = t.rxByte := by
    funext i
    rw [State.rxByte, State.rxByte, hbuf]
  have hresult := holdsResult_of_exec_parse hs
  rw [hlen, hbyte, hstrict] at hresult
  exact holdsResult_unique hresult (holdsResult_of_exec_parse ht) hr

/-- The receive buffer holds a sequence: its length is counted up to 0xFFFF and its first 260 bytes are stored (R30, R31). -/
def HoldsBytes (bs : List Byte) (s : State) : Prop :=
  s.rxLen.toNat = min bs.length 0xFFFF ∧ ∀ i, i < min bs.length 260 → s.rxByte i = frameAt bs i

/-- RX_PUSH appends its byte to the sequence that the buffer holds (R151). -/
theorem HoldsBytes.rxPush {bs : List Byte} {s : State} (h : HoldsBytes bs s) (b : Byte) :
    ∃ t, exec (.rxPush b) s = .next t ∧ HoldsBytes (bs ++ [b]) t ∧ t.excCrcChk = s.excCrcChk := by
  obtain ⟨hlen, hbytes⟩ := h
  obtain ⟨t, ht, hstored, hothers, -, hcount, hmax, -⟩ := rxPushAppends.2 s b
  have hstrict : t.excCrcChk = s.excCrcChk := by
    cases ht
    rfl
  refine ⟨t, ht, ⟨?_, fun i hi => ?_⟩, hstrict⟩
  · rw [List.length_append, List.length_singleton]
    obtain hlt | hge : bs.length < 0xFFFF ∨ 0xFFFF ≤ bs.length := lt_or_ge _ _
    · rw [hcount (by omega)]
      omega
    · rw [hmax (by omega)]
      change 0xFFFF = _
      omega
  · rw [List.length_append, List.length_singleton] at hi
    obtain hlt | rfl : i < bs.length ∨ i = bs.length := by omega
    · rw [hothers i (by omega), hbytes i (by omega), frameAt, frameAt, List.getD_append _ _ _ _ hlt]
    · have hindex : s.rxLen.toNat = bs.length := by omega
      rw [← hindex, hstored (by omega), hindex]
      simp [frameAt]

theorem HoldsBytes.runCommands_rxPush {pre : List Byte} {s : State} (h : HoldsBytes pre s) (bs : List Byte) :
    ∃ t, runCommands (bs.map .rxPush) s = .next t ∧ HoldsBytes (pre ++ bs) t ∧ t.excCrcChk = s.excCrcChk := by
  induction bs generalizing pre s with
  | nil => exact ⟨s, rfl, by rwa [List.append_nil], rfl⟩
  | cons b bs ih =>
    obtain ⟨u, hu, hpushed, hstrictu⟩ := h.rxPush b
    obtain ⟨t, ht, hall, hstrict⟩ := ih hpushed
    rw [List.append_assoc, List.singleton_append] at hall
    exact ⟨t, (runCommands_of_exec hu).trans ht, hall, hstrict.trans hstrictu⟩

theorem readReg_rxLen (s : State) : s.readReg .rxLen = BitVec.ofNat 32 s.rxLen.toNat := (BitVec.ofNat_toNat 32 s.rxLen).symm

/-- Settles O50: the buffer holds the sequence, PARSE records the outcome for the buffer, and the outcome depends only on the
bytes that are stored. -/
theorem pushedFrameIsParsed : Obligations.PushedFrameIsParsed := by
  unfold Obligations.PushedFrameIsParsed
  intro bs s
  have hempty : HoldsBytes [] (s.setRxLen 0).clearResult.markLegal := ⟨rfl, fun i hi => absurd hi (Nat.not_lt_zero i)⟩
  obtain ⟨u, hu, ⟨hlen, hbytes⟩, hstrict⟩ := hempty.runCommands_rxPush bs
  rw [List.nil_append] at hlen hbytes
  obtain ⟨t, ht⟩ := exists_exec_eq_next .parse u
  have hkept : t.readReg .rxLen = u.readReg .rxLen := by
    obtain ⟨t', ht', -, -, hframe, -⟩ := parseRecordsOutcome.2 u
    obtain rfl : t' = t := Host.Outcome.next.inj (ht'.symm.trans ht)
    exact hframe .rxLen rfl
  refine ⟨t, ?_, ?_, ?_⟩
  · rw [List.cons_append, runCommands_of_exec (exec_rxClear s), runCommands_append hu]
    exact runCommands_of_exec ht
  · rw [hkept, readReg_rxLen, hlen]
  · have hresult := holdsResult_of_exec_parse ht
    rw [hlen, hstrict] at hresult
    rwa [parseReadsOnlyStoredBytes _ u.rxByte (frameAt bs) _ fun i hi => hbytes i (by omega)] at hresult

end Sys2Proof.Machine
end

section
/-!
Events served as steps (spec/20_memory.md R50 to R61, spec/43_control.md R180, spec/70_reset_and_hazards.md R230 to R237):
what each register reads at its offset, the equation of a step for each kind of event, that every step goes on, and the
statements settled from these.
-/

namespace Sys2Proof.Machine

/-! ## Reads -/

theorem busRead_of_at? (s : State) {off : Offset} {r : Reg} (hal : off.val % 4 = 0) (hr : Reg.at? off.val = some r) :
    busRead s off 4 = .ok (s.readReg r) := by
  rw [busRead_legal (accessLegal_four hal), hr]
  rfl

theorem busRead_of_unmapped (s : State) {off : Offset} (hal : off.val % 4 = 0) (hr : Reg.at? off.val = none) :
    busRead s off 4 = .ok 0 := by
  rw [busRead_legal (accessLegal_four hal), hr]
  rfl

/-- A read looks at the registers alone. -/
theorem busRead_congr {s t : State} (h : ∀ r, s.readReg r = t.readReg r) (off : Offset) (size : Nat) :
    busRead s off size = busRead t off size := by
  cases hl : accessLegal off size with
  | true => rw [busRead_legal hl, busRead_legal hl, funext h]
  | false => rw [busRead_illegal hl, busRead_illegal hl]

theorem Reg.offset_aligned (r : Reg) : r.offset % 4 = 0 := by
  cases r with
  | rspReg i =>
    rw [Reg.offset_rspReg]
    omega
  | _ => rfl

/-- The offsets from 0x038 to 0x0FC belong to no register (R55). -/
theorem Reg.at?_gap {n : Nat} (hlow : 0x038 ≤ n) (hhigh : n ≤ 0x0FC) : Reg.at? n = none := by
  rw [Option.eq_none_iff_forall_ne_some]
  intro r hr
  have hoff := Reg.offset_of_at? hr
  cases r with
  | rspReg i =>
    rw [Reg.offset_rspReg] at hoff
    omega
  | _ =>
    subst hoff
    revert hlow hhigh
    decide

theorem setWidth_ofBool (b : Bool) : (BitVec.ofBool b).setWidth 32 = if b then 1 else 0 := by
  cases b <;> rfl

/-- Settles O10: the register at each offset with its fields side by side, and no register at the unmapped offsets. -/
theorem readReturnsRegisterFields : Obligations.ReadReturnsRegisterFields := by
  unfold Obligations.ReadReturnsRegisterFields
  intro s
  refine ⟨congrArg _ (setWidth_ofBool _), rfl, congrArg _ (setWidth_ofBool _), congrArg _ (zext_eq_append _),
    congrArg _ (packBytes_append _ _), congrArg _ (packHalves_append _ _), congrArg _ (zext_eq_append _), rfl, rfl,
    congrArg _ (zext_eq_append _), congrArg _ (zext_eq_append _), congrArg _ (packInfo_append _ _ _),
    congrArg _ (zext_eq_append _), congrArg _ (zext_eq_append _), fun i off hoff h63 => ?_, rfl,
    fun off hal hlow hhigh => busRead_of_unmapped s hal (Reg.at?_gap hlow hhigh),
    fun off size hbad => busRead_illegal (accessLegal_eq_false_iff.mpr hbad)⟩
  have hne : Reg.rspReg i ≠ .rspReg 63 := fun h => h63 (congrArg Fin.val (Reg.rspReg.inj h))
  have hat : Reg.at? off.val = some (.rspReg i) := by
    rw [hoff]
    exact Reg.at?_offset hne
  exact (busRead_of_at? s (by omega) hat).trans (congrArg _ (zext_eq_append _))

/-! ## Reset -/

/-- R230's table. -/
theorem readReg_reset (r : Reg) : State.reset.readReg r = if r = .crc then 0x0000FFFF else 0 := by
  cases r with
  | rspReg i => simp [State.readReg, State.reset]
  | _ => rfl

/-- Settles O6: the register at its own offset is read, but for RSP_REG[63], whose offset is unmapped and whose value is 0. -/
theorem resetRegisterValues : Obligations.ResetRegisterValues := by
  unfold Obligations.ResetRegisterValues
  refine fun r => ⟨readReg_reset r, fun off hoff => ?_⟩
  have hal : off.val % 4 = 0 := hoff ▸ r.offset_aligned
  by_cases h63 : r = .rspReg 63
  · subst h63
    exact busRead_of_unmapped _ hal (by rw [hoff]; rfl)
  · rw [busRead_of_at? _ hal (by rw [hoff]; exact Reg.at?_offset h63), readReg_reset]

theorem step_of_no_event {s : State} (h : s.pending = []) : step s = .next s := by
  simp [step, h]

theorem step_of_event {s : State} {e : HostEvent} {rest : List HostEvent} (h : s.pending = e :: rest) :
    step s = performEvent e (s.setPending rest) := by
  simp [step, h]

/-- Settles O7: the step is the reset state with the later events, and those are in no register. -/
theorem resetWinsOverEverything : Obligations.ResetWinsOverEverything := by
  unfold Obligations.ResetWinsOverEverything
  intro s running rest h
  refine ⟨_, step_of_event h, fun r => ?_⟩
  rw [State.readReg_setPending, readReg_reset]

/-! ## The port -/

theorem performAccess_read_ok {s : State} {off : Offset} {size : Nat} {v : Word} (h : busRead s off size = .ok v) :
    performAccess (.read off size) s = .next (s.respond (.data v)) := by
  simp [performAccess, h]

theorem performAccess_write_next {s t : State} {off : Offset} {size : Nat} {v : Word}
    (h : busWrite s off size v = .next t) : performAccess (.write off size v) s = .next (t.respond .written) := by
  simp [performAccess, h]

/-- An access of another width or alignment is answered with the bus error, whether it reads or writes (R54). -/
theorem performAccess_busError (s : State) {a : BusAccess} {off : Offset} {size : Nat} {v : Word}
    (hl : accessLegal off size = false) (ha : a = .read off size ∨ a = .write off size v) :
    performAccess a s = .next (s.respond (.busError off)) := by
  obtain rfl | rfl := ha
  · simp [performAccess, busRead_illegal hl]
  · simp [performAccess, busWrite_illegal v hl]

/-- Taking the event off and recording an answer is seen in no register and no byte of RX_BUF. -/
theorem setPending_respond_frame (s : State) (es : List HostEvent) (q : BusResponse) :
    keepsAllBut (fun _ => false) s ((s.setPending es).respond q) ∧ keepsBuffer s ((s.setPending es).respond q) :=
  ⟨fun _ _ => by rw [State.readReg_respond, State.readReg_setPending], fun _ => rfl⟩

/-- Settles O9: both access functions refuse the access, and the step only records the bus error. -/
theorem busErrorChangesNothing : Obligations.BusErrorChangesNothing := by
  unfold Obligations.BusErrorChangesNothing
  intro s off size v hbad
  have hl := accessLegal_eq_false_iff.mpr hbad
  refine ⟨busRead_illegal hl, busWrite_illegal v hl, fun rest a ha h => ?_⟩
  have hstep := (step_of_event h).trans (performAccess_busError (s.setPending rest) hl ha)
  exact ⟨_, hstep, rfl, rfl, setPending_respond_frame s rest _⟩

/-- A read as the next event is answered, and nothing but the answer and the taken event tells the states apart (R57). -/
theorem step_read {s : State} {off : Offset} {size : Nat} {rest : List HostEvent}
    (h : s.pending = .access (.read off size) :: rest) :
    ∃ q, step s = .next ((s.setPending rest).respond q) ∧ (∀ v, busRead s off size = .ok v → q = .data v) ∧
      (∀ o, busRead s off size = .error (.busError o) → q = .busError o) := by
  have hread : busRead s off size = busRead (s.setPending rest) off size := busRead_congr (by simp) off size
  rw [step_of_event h, hread]
  cases hl : accessLegal off size with
  | true =>
    have hok := busRead_legal (s := s.setPending rest) hl
    refine ⟨_, performAccess_read_ok hok, fun v hv => ?_, fun o ho => ?_⟩
    · rw [Except.ok.inj (hok.symm.trans hv)]
    · exact nomatch hok.symm.trans ho
  | false =>
    have herror := busRead_illegal (s := s.setPending rest) hl
    refine ⟨_, performAccess_busError (v := 0) _ hl (.inl rfl), fun v hv => ?_, fun o ho => ?_⟩
    · exact nomatch herror.symm.trans hv
    · rw [Fault.busError.inj (Except.error.inj (herror.symm.trans ho))]

/-- Settles O13: the answer is the port's, and the second read finds the same registers. -/
theorem readsHaveNoSideEffect : Obligations.ReadsHaveNoSideEffect := by
  unfold Obligations.ReadsHaveNoSideEffect
  intro s off size rest h
  obtain ⟨q, hstep, hdata, herror⟩ := step_read h
  obtain ⟨hregs, hbuf⟩ := setPending_respond_frame s rest q
  refine ⟨_, hstep, rfl, hregs, hbuf, fun v hv => congrArg some (hdata v hv), fun o ho => congrArg some (herror o ho),
    fun rest' hrest => ?_⟩
  obtain ⟨q', hstep', hdata', herror'⟩ := step_read (s := (s.setPending rest).respond q) hrest
  rw [busRead_congr (s := (s.setPending rest).respond q) (t := s) (by simp)] at hdata' herror'
  refine ⟨_, hstep', congrArg some ?_⟩
  cases hread : busRead s off size with
  | ok v => rw [hdata v hread, hdata' v hread]
  | error f =>
    cases f with
    | busError o => rw [herror o hread, herror' o hread]

/-- A legal write goes on at every offset (R53, R55, R56). -/
theorem exists_busWrite_eq_next (s : State) {off : Offset} {size : Nat} (v : Word) (hl : accessLegal off size = true) :
    ∃ t, busWrite s off size v = .next t := by
  obtain ⟨-, h⟩ | ⟨-, h⟩ | ⟨-, h⟩ | ⟨-, i, -, h⟩ | ⟨-, -, h⟩ | h := busWrite_legal_cases (s := s) v hl
  case inr.inr.inr.inl =>
    obtain ⟨t, ht⟩ := exists_exec_eq_next i s
    exact ⟨t, h.trans ht⟩
  all_goals exact ⟨_, h⟩

/-- Settles O60: the write goes on, and the step answers it. -/
theorem stepPerformsLegalWrite : Obligations.StepPerformsLegalWrite := by
  unfold Obligations.StepPerformsLegalWrite
  intro s off v rest h hal
  obtain ⟨t, ht⟩ := exists_busWrite_eq_next (s.setPending rest) v (accessLegal_four hal)
  exact ⟨t, ht, (step_of_event h).trans (performAccess_write_next ht)⟩

/-- Settles O15: a write to CMD is `execute_command`, which follows the decoder. -/
theorem stepRunsDecodedCommand : Obligations.StepRunsDecodedCommand := by
  unfold Obligations.StepRunsDecodedCommand
  intro s rest v h
  obtain ⟨t, ht, hstep⟩ := stepPerformsLegalWrite s 0x004 v rest h rfl
  rw [busWrite_cmd, executeCommand] at ht
  refine ⟨fun i hi => ?_, fun w hw => ?_⟩
  · rw [hi] at ht
    exact ⟨t, ht, hstep⟩
  · rw [hw] at ht
    exact ⟨t, ht, hstep⟩

theorem offsetInWindow_eq_some_iff {n : Nat} {off : Offset} : offsetInWindow n = some off ↔ n = off.val := by
  have hoff : off.val < Config.window := off.isLt
  unfold offsetInWindow
  split_ifs with hn
  · simp [Fin.ext_iff]
  · simp only [false_iff]
    omega

theorem offsetOfAddress_eq_some_iff {addr : Nat} {off : Offset} :
    offsetOfAddress addr = some off ↔ addr = Config.baseAddr + off.val := by
  unfold offsetOfAddress
  split_ifs with haddr
  · rw [offsetInWindow_eq_some_iff]
    omega
  · simp only [false_iff]
    omega

/-- Settles O14: the offset is the distance from BASE_ADDR, when that is below the window's size. -/
theorem windowSpansFromBaseAddress : Obligations.WindowSpansFromBaseAddress := by
  unfold Obligations.WindowSpansFromBaseAddress
  refine fun addr => ⟨?_, fun off => offsetOfAddress_eq_some_iff⟩
  simp only [Option.isSome_iff_exists, offsetOfAddress_eq_some_iff]
  constructor
  · rintro ⟨off, rfl⟩
    have hoff : off.val < 0x200 := off.isLt
    omega
  · rintro ⟨hlow, hhigh⟩
    have hlt : addr - Config.baseAddr < 0x200 := by omega
    exact ⟨⟨addr - Config.baseAddr, hlt⟩, (Nat.add_sub_cancel' hlow).symm⟩

/-! ## Every step goes on -/

theorem exists_performEvent_eq_next (e : HostEvent) (s : State) : ∃ t, performEvent e s = .next t := by
  cases e with
  | reset running => exact ⟨_, rfl⟩
  | access a =>
    cases a with
    | read off size =>
      cases hl : accessLegal off size with
      | true => exact ⟨_, performAccess_read_ok (busRead_legal hl)⟩
      | false => exact ⟨_, performAccess_busError (v := 0) s hl (.inl rfl)⟩
    | write off size v =>
      cases hl : accessLegal off size with
      | true =>
        obtain ⟨t, ht⟩ := exists_busWrite_eq_next s v hl
        exact ⟨_, performAccess_write_next ht⟩
      | false => exact ⟨_, performAccess_busError s hl (.inr rfl)⟩

theorem exists_step_eq_next (s : State) : ∃ t, step s = .next t := by
  cases h : s.pending with
  | nil => exact ⟨s, step_of_no_event h⟩
  | cons e rest =>
    rw [step_of_event h]
    exact exists_performEvent_eq_next e _

/-- Settles O17: the step of a state with no event is that state. -/
theorem noAutonomousStep : Obligations.NoAutonomousStep := by
  unfold Obligations.NoAutonomousStep
  exact fun s h => step_of_no_event h

/-- Settles O18: every event and every command goes on. -/
theorem neverStuck : Obligations.NeverStuck := by
  unfold Obligations.NeverStuck
  exact ⟨exists_step_eq_next, exists_exec_eq_next⟩

theorem exec_pending {i : Instr} {s t : State} (h : exec i s = .next t) : t.pending = s.pending := by
  cases i with
  | reqBuild =>
    cases h
    exact State.recordBuild_pending s _
  | parse =>
    cases h
    exact State.recordResult_pending s.clearResult _
  | nop | crcInit | crcByte b | rxClear | rxPush b =>
    cases h
    rfl

theorem Effect.pending {s base u : State} (h : Effect s base u) : u.pending = base.pending := by
  cases h with
  | command i _ _ hexec _ => exact exec_pending hexec
  | _ => rfl

/-- A step takes the oldest event and leaves the later ones waiting (R61). -/
theorem step_pending {s t : State} (h : step s = .next t) : t.pending = s.pending.tail := by
  obtain ⟨hp, rfl⟩ | ⟨e, rest, u, hp, heffect, ht⟩ := step_cases h
  · rw [hp, List.tail_nil]
  · rw [hp, List.tail_cons]
    obtain rfl | ⟨q, rfl⟩ := ht
    · exact heffect.pending
    · exact heffect.pending

/-- Settles O19: each step goes on and takes one event. -/
theorem everyEventIsServed : Obligations.EveryEventIsServed := by
  unfold Obligations.EveryEventIsServed
  intro s
  induction h : s.pending generalizing s with
  | nil => exact ⟨s, rfl, h⟩
  | cons e rest ih =>
    obtain ⟨u, hu⟩ := exists_step_eq_next s
    have hrest : u.pending = rest := by rw [step_pending hu, h, List.tail_cons]
    obtain ⟨t, ht, hdone⟩ := ih u hrest
    exact ⟨t, (runSteps_of_step rest.length hu).trans ht, hdone⟩

/-! ## Commands as events -/

theorem step_cmdWrite {i : Instr} {s : State} {rest : List HostEvent} (h : s.pending = .access (cmdWrite i) :: rest) :
    ∃ t, exec i (s.setPending rest) = .next t ∧ step s = .next (t.respond .written) :=
  (stepRunsDecodedCommand s rest (encode i) h).1 i (decode_encode i)

/-- Serving the CMD writes of commands without a CRC_INIT folds the CRC_BYTE operands into CRC.VALUE (R105). -/
theorem runSteps_crc {is : List Instr} {s : State} (his : Instr.crcInit ∉ is)
    (h : s.pending = is.map fun i => .access (cmdWrite i)) :
    ∃ t, runSteps is.length s = .next t ∧ t.crc = (crcOperands is).foldl crcByte s.crc := by
  induction is generalizing s with
  | nil => exact ⟨s, rfl, rfl⟩
  | cons i is ih =>
    obtain ⟨hi, htail⟩ : Instr.crcInit ≠ i ∧ Instr.crcInit ∉ is := by simpa using his
    obtain ⟨u, hu, hstep⟩ := step_cmdWrite h
    obtain ⟨t, ht, hcrc⟩ := ih (s := u.respond .written) htail (exec_pending hu)
    refine ⟨t, (runSteps_of_step is.length hstep).trans ht, ?_⟩
    rw [hcrc, State.respond_crc, exec_crc hi.symm hu, crcOperands_cons i is, List.foldl_append, State.setPending_crc]

theorem asmEvents_crcOf (bs : List Byte) :
    asmEvents [.crcOf bs] =
      .access (cmdWrite .crcInit) :: (bs.map Instr.crcByte).map fun i => .access (cmdWrite i) := by
  simp [asmEvents, Asm.accesses]

/-- Settles O26: the first event leaves the seed, and the others fold in the bytes. -/
theorem crcOfComputesCrc16 : Obligations.CrcOfComputesCrc16 := by
  unfold Obligations.CrcOfComputesCrc16
  intro bs s h
  rw [asmEvents_crcOf] at h
  obtain ⟨u, hu, hstep⟩ := step_cmdWrite h
  obtain ⟨t, ht, hcrc⟩ := runSteps_crc (is := bs.map .crcByte) (s := u.respond .written) (by simp) (exec_pending hu)
  have hlen : s.pending.length = (bs.map Instr.crcByte).length + 1 := by simp [h]
  have hseed : u.crc = crcSeed := by
    cases hu
    rfl
  refine ⟨t, ?_, ?_⟩
  · rw [hlen, runSteps_of_step _ hstep, ht]
  · rw [readReg_crc, hcrc, crcOperands_map_crcByte, State.respond_crc, hseed]
    rfl

end Sys2Proof.Machine
end

section
/-!
What a step can change (spec/10_state.md R24 to R32): the registers each command may write, the cause of every change of a
register or of a byte of RX_BUF by a step, and the statements settled from these.
-/

namespace Sys2Proof.Machine

/-- The registers a command may write (R103, R104, R122, R150 to R152, R182). -/
def mayWrite : Instr → Reg → Bool
  | .nop => (· == .cmdStatus)
  | .crcInit | .crcByte _ => (· ∈ [.crc, .cmdStatus])
  | .reqBuild => fun r => r.isRequestResult || r == .cmdStatus
  | .rxClear | .rxPush _ => fun r => r.isResult || r == .rxLen || r == .cmdStatus
  | .parse => fun r => r.isResult || r == .cmdStatus

theorem exec_frame {i : Instr} {s t : State} (h : exec i s = .next t) : keepsAllBut (mayWrite i) s t := by
  cases i with
  | nop =>
    cases h
    exact (markLegal_frame s).1
  | crcInit =>
    cases h
    exact (setCrc_markLegal_frame s _).1
  | crcByte b =>
    cases h
    exact (setCrc_markLegal_frame s _).1
  | reqBuild =>
    cases h
    exact (recordBuild_markLegal_frame s _).1
  | rxClear =>
    cases h
    exact (setRxLen_clearResult_markLegal_frame s _).1
  | rxPush b =>
    cases h
    intro r hr
    rw [(setRxLen_clearResult_markLegal_frame (s.storeRx s.rxLen.toNat b) _).1 r hr, State.readReg_storeRx]
  | parse =>
    cases h
    exact (recordResult_markLegal_frame s _).1

/-- Only RX_PUSH stores a byte, and only at index RX_LEN (R31, R151). -/
theorem exec_rxByte_ne {i : Instr} {s t : State} {k : Nat} (h : exec i s = .next t) (hk : t.rxByte k ≠ s.rxByte k) :
    k = s.rxLen.toNat ∧ ∃ b, i = .rxPush b := by
  cases i with
  | rxPush b =>
    refine ⟨?_, b, rfl⟩
    by_contra hne
    cases h
    exact hk (s.rxByte_storeRx_other b hne)
  | nop | crcInit | crcByte b | reqBuild | rxClear | parse =>
    cases h
    exact absurd (by simp) hk

/-- The next event is an aligned 32-bit write to CMD. -/
def WritesCmd (s : State) : Prop := ∃ v rest, s.pending = .access (.write 0x004 4 v) :: rest

/-- CMD stands at offset 0x004 alone, and only 4-byte accesses are legal. -/
theorem writesCmd_of_legal {s : State}
    (h : ∃ off size v rest, s.pending = .access (.write off size v) :: rest ∧ Reg.at? off.val = some .cmd ∧
      accessLegal off size = true) : WritesCmd s := by
  obtain ⟨off, size, v, rest, hp, hr, hl⟩ := h
  obtain rfl : off = 0x004 := Fin.ext (Reg.offset_of_at? hr)
  obtain rfl : size = 4 := (of_decide_eq_true (Bool.and_eq_true_iff.mp hl).1)
  exact ⟨v, rest, hp⟩

/-- The causes of a register's change: a reset, a command that may write it, an illegal word at CMD_STATUS, or a bus write of
the register itself. -/
inductive ChangeCause (s : State) (r : Reg) : Prop where
  | reset (h : s.nextIsReset = true)
  | command (i : Instr) (h : s.nextCommand = some i) (hcmd : WritesCmd s) (hr : mayWrite i r = true)
  | illegal (hr : r = .cmdStatus) (hcmd : WritesCmd s)
  | write (hr : r.access = .rw)

theorem Effect.changeCause {s base u : State} {r : Reg} (h : Effect s base u) (hr : u.readReg r ≠ base.readReg r) :
    ChangeCause s r := by
  cases h with
  | unchanged => exact absurd rfl hr
  | reset hreset => exact .reset hreset
  | writeCtrl v =>
    obtain rfl : r = .ctrl := not_imp_comm.mp (base.readReg_writeCtrl v) hr
    exact .write rfl
  | writeReqHdr v =>
    obtain rfl : r = .reqHdr := not_imp_comm.mp (base.readReg_writeReqHdr v) hr
    exact .write rfl
  | writeReqArgs v =>
    obtain rfl : r = .reqArgs := not_imp_comm.mp (base.readReg_writeReqArgs v) hr
    exact .write rfl
  | illegal hcmd => exact .illegal (not_imp_comm.mp base.readReg_markIllegal hr) (writesCmd_of_legal hcmd)
  | command i _ hi hexec hcmd =>
    have hmay : mayWrite i r = true := (Bool.not_eq_false _).mp fun hfalse => hr (exec_frame hexec r hfalse)
    exact .command i hi (writesCmd_of_legal hcmd) hmay

theorem step_changeCause {s t : State} {r : Reg} (h : step s = .next t) (hr : t.readReg r ≠ s.readReg r) :
    ChangeCause s r := by
  obtain ⟨-, rfl⟩ | ⟨e, rest, u, -, heffect, rfl | ⟨q, rfl⟩⟩ := step_cases h
  · exact absurd rfl hr
  · exact heffect.changeCause (by rwa [State.readReg_setPending])
  · exact heffect.changeCause (by rwa [State.readReg_setPending, ← State.readReg_respond u q r])

/-- A byte of RX_BUF changes by a reset or by an RX_PUSH at its index. -/
theorem Effect.rxByte_ne {s base u : State} {k : Nat} (h : Effect s base u) (hk : u.rxByte k ≠ base.rxByte k) :
    s.nextIsReset = true ∨ k = base.rxLen.toNat ∧ ∃ b, s.nextCommand = some (.rxPush b) := by
  cases h with
  | reset hreset => exact .inl hreset
  | command i _ hi hexec _ =>
    obtain ⟨hindex, b, rfl⟩ := exec_rxByte_ne hexec hk
    exact .inr ⟨hindex, b, hi⟩
  | unchanged | writeCtrl v | writeReqHdr v | writeReqArgs v | illegal _ => exact absurd rfl hk

theorem step_rxByte_ne {s t : State} {k : Nat} (h : step s = .next t) (hk : t.rxByte k ≠ s.rxByte k) :
    s.nextIsReset = true ∨ k = s.rxLen.toNat ∧ ∃ b, s.nextCommand = some (.rxPush b) := by
  obtain ⟨-, rfl⟩ | ⟨e, rest, u, -, heffect, rfl | ⟨q, rfl⟩⟩ := step_cases h
  · exact absurd rfl hk
  · exact heffect.rxByte_ne hk
  · exact heffect.rxByte_ne hk

/-- A read-only register other than CMD_STATUS changes only by a reset and by the commands that may write it. -/
theorem command_of_readReg_ne {s t : State} {r : Reg} (hro : r.access = .ro) (hstatus : r ≠ .cmdStatus)
    (h : step s = .next t) (hr : t.readReg r ≠ s.readReg r) :
    s.nextIsReset = true ∨ ∃ i, s.nextCommand = some i ∧ mayWrite i r = true := by
  cases step_changeCause h hr with
  | reset hreset => exact .inl hreset
  | command i hi _ hmay => exact .inr ⟨i, hi, hmay⟩
  | illegal hr _ => exact absurd hr hstatus
  | write hrw => exact nomatch hro.symm.trans hrw

theorem mayWrite_crc {i : Instr} (h : mayWrite i .crc = true) : i = .crcInit ∨ ∃ b, i = .crcByte b := by
  cases i with
  | crcInit => exact .inl rfl
  | crcByte b => exact .inr ⟨b, rfl⟩
  | _ => exact Bool.noConfusion h

theorem mayWrite_rxLen {i : Instr} (h : mayWrite i .rxLen = true) : i = .rxClear ∨ ∃ b, i = .rxPush b := by
  cases i with
  | rxClear => exact .inl rfl
  | rxPush b => exact .inr ⟨b, rfl⟩
  | _ => exact Bool.noConfusion h

theorem Reg.isRequestResult_readOnly {r : Reg} (hr : r.isRequestResult = true) : r.access = .ro ∧ r ≠ .cmdStatus := by
  cases r with
  | reqStatus | reqFrame0 | reqFrame1 => exact ⟨rfl, Reg.noConfusion⟩
  | _ => exact Bool.noConfusion hr

theorem Reg.isResult_readOnly {r : Reg} (hr : r.isResult = true) : r.access = .ro ∧ r ≠ .cmdStatus := by
  cases r with
  | rspStatus | rspInfo | rspErrA | rspErrB | rspReg => exact ⟨rfl, Reg.noConfusion⟩
  | _ => exact Bool.noConfusion hr

theorem mayWrite_requestResult {i : Instr} {r : Reg} (hr : r.isRequestResult = true) (h : mayWrite i r = true) :
    i = .reqBuild := by
  cases r with
  | reqStatus | reqFrame0 | reqFrame1 =>
    cases i with
    | reqBuild => rfl
    | _ => exact Bool.noConfusion h
  | _ => exact Bool.noConfusion hr

theorem mayWrite_result {i : Instr} {r : Reg} (hr : r.isResult = true) (h : mayWrite i r = true) :
    i = .rxClear ∨ (∃ b, i = .rxPush b) ∨ i = .parse := by
  cases r with
  | rspStatus | rspInfo | rspErrA | rspErrB | rspReg =>
    cases i with
    | rxClear => exact .inl rfl
    | rxPush b => exact .inr (.inl ⟨b, rfl⟩)
    | parse => exact .inr (.inr rfl)
    | _ => exact Bool.noConfusion h
  | _ => exact Bool.noConfusion hr

/-- Settles O53: CRC is read-only on the bus, and only CRC_INIT and CRC_BYTE may write it. -/
theorem onlyCrcCommandsWriteCrc : Obligations.OnlyCrcCommandsWriteCrc := by
  unfold Obligations.OnlyCrcCommandsWriteCrc
  intro s t h hr
  obtain hreset | ⟨i, hi, hmay⟩ := command_of_readReg_ne rfl Reg.noConfusion h hr
  · exact .inl hreset
  · obtain rfl | ⟨b, rfl⟩ := mayWrite_crc hmay
    · exact .inr (.inl hi)
    · exact .inr (.inr ⟨b, hi⟩)

/-- Settles O54: the request result is read-only on the bus, and only REQ_BUILD may write it. -/
theorem onlyReqBuildWritesRequestResult : Obligations.OnlyReqBuildWritesRequestResult := by
  unfold Obligations.OnlyReqBuildWritesRequestResult
  intro s t r h hrequest hr
  obtain ⟨hro, hstatus⟩ := Reg.isRequestResult_readOnly hrequest
  obtain hreset | ⟨i, hi, hmay⟩ := command_of_readReg_ne hro hstatus h hr
  · exact .inl hreset
  · obtain rfl := mayWrite_requestResult hrequest hmay
    exact .inr hi

/-- Settles O55: RX_LEN and the result registers are read-only on the bus, and the parser's commands alone may write them or
store a byte. -/
theorem onlyParserCommandsWriteParserState : Obligations.OnlyParserCommandsWriteParserState := by
  unfold Obligations.OnlyParserCommandsWriteParserState
  intro s t h hreset
  have hno : ¬ s.nextIsReset = true := Bool.not_eq_true _ ▸ hreset
  refine ⟨fun hr => ?_, fun i hi => (step_rxByte_ne h hi).resolve_left hno, fun r hresult hr => ?_⟩
  · obtain ⟨i, hi, hmay⟩ := (command_of_readReg_ne rfl Reg.noConfusion h hr).resolve_left hno
    obtain rfl | ⟨b, rfl⟩ := mayWrite_rxLen hmay
    · exact .inl hi
    · exact .inr ⟨b, hi⟩
  · obtain ⟨hro, hstatus⟩ := Reg.isResult_readOnly hresult
    obtain ⟨i, hi, hmay⟩ := (command_of_readReg_ne hro hstatus h hr).resolve_left hno
    obtain rfl | ⟨b, rfl⟩ | rfl := mayWrite_result hresult hmay
    · exact .inl hi
    · exact .inr (.inl ⟨b, hi⟩)
    · exact .inr (.inr hi)

/-- Every command ends by marking itself legal (R24). -/
theorem exec_cmdStatus {i : Instr} {s t : State} (h : exec i s = .next t) : t.readReg .cmdStatus = 0 := by
  cases i <;> cases h <;> rfl

/-- Settles O56: a legal word runs a command, an illegal one `illegal_command`, and CMD_STATUS is read-only on the bus. -/
theorem illegalReportsLatestCommandWord : Obligations.IllegalReportsLatestCommandWord := by
  unfold Obligations.IllegalReportsLatestCommandWord
  refine ⟨fun i s t => exec_cmdStatus, fun s v rest h => ?_, fun s t h hr => ?_⟩
  · obtain ⟨hcommand, hillegal⟩ := stepRunsDecodedCommand s rest v h
    by_cases hword : WellFormed.word v = true
    · obtain ⟨i, hi⟩ := (illegalWordsAreTheReservedOnes v).2.mpr hword
      obtain ⟨u, hu, hstep⟩ := hcommand i hi
      exact ⟨_, hstep, by rw [State.readReg_respond, exec_cmdStatus hu, if_pos hword]⟩
    · obtain ⟨w, hw⟩ := (exists_decode_eq_illegal_iff v).mpr ((illegalWordsAreTheReservedOnes v).2.not.mpr hword)
      obtain ⟨u, hu, hstep⟩ := hillegal w hw
      refine ⟨_, hstep, ?_⟩
      cases hu
      rw [State.readReg_respond, readReg_cmdStatus_markIllegal, if_neg hword]
  · cases step_changeCause h hr with
    | reset hreset => exact .inl hreset
    | command i _ hcmd _ => exact .inr hcmd
    | illegal _ hcmd => exact .inr hcmd
    | write hrw => exact nomatch hrw

end Sys2Proof.Machine
end

section
/-!
The invariants of spec/10_state.md R40 and of spec/42_response.md R153: they hold after reset, every command keeps them, and
so does every effect of a step. The statements settled from these.
-/

namespace Sys2Proof.Machine

/-- The second state has the results, the length and the buffer of the first. -/
structure SameResults (s t : State) : Prop where
  readReg : ∀ r : Reg, r.isResult || r.isRequestResult → t.readReg r = s.readReg r
  nregs : t.rspNregs = s.rspNregs
  code : t.rspResult = s.rspResult
  rxLen : t.rxLen = s.rxLen
  rxByte : t.rxByte = s.rxByte

/-- No result can be written on the bus, and an illegal word changes none: only a reset and commands do. -/
theorem Effect.results {s base u : State} (h : Effect s base u) :
    SameResults base u ∨ u = State.reset.setPending base.pending ∨ ∃ i, exec i base = .next u := by
  cases h with
  | unchanged => exact .inl ⟨fun _ _ => rfl, rfl, rfl, rfl, rfl⟩
  | reset => exact .inr (.inl rfl)
  | writeCtrl v =>
    exact .inl ⟨fun r hr => base.readReg_writeCtrl v (by rintro rfl; exact Bool.noConfusion hr), rfl, rfl, rfl, rfl⟩
  | writeReqHdr v =>
    exact .inl ⟨fun r hr => base.readReg_writeReqHdr v (by rintro rfl; exact Bool.noConfusion hr), rfl, rfl, rfl, rfl⟩
  | writeReqArgs v =>
    exact .inl ⟨fun r hr => base.readReg_writeReqArgs v (by rintro rfl; exact Bool.noConfusion hr), rfl, rfl, rfl, rfl⟩
  | illegal =>
    exact .inl ⟨fun r hr => base.readReg_markIllegal (by rintro rfl; exact Bool.noConfusion hr), rfl, rfl, rfl, rfl⟩
  | command i _ _ hexec _ => exact .inr (.inr ⟨i, hexec⟩)

theorem sameResults_setPending (s : State) (es : List HostEvent) : SameResults s (s.setPending es) :=
  ⟨fun r _ => s.readReg_setPending es r, rfl, rfl, rfl, rfl⟩

theorem sameResults_respond (s : State) (q : BusResponse) : SameResults s (s.respond q) :=
  ⟨fun r _ => s.readReg_respond q r, rfl, rfl, rfl, rfl⟩

/-- A predicate on the results, the length and the buffer is kept by every step when it holds after reset and every command
keeps it. -/
theorem step_keeps {P : State → Prop} (hcongr : ∀ {s t : State}, P s → SameResults s t → P t) (hreset : P State.reset)
    (hexec : ∀ {i : Instr} {s t : State}, P s → exec i s = .next t → P t) {s t : State} (hs : P s)
    (h : step s = .next t) : P t := by
  obtain ⟨-, rfl⟩ | ⟨e, rest, u, -, heffect, ht⟩ := step_cases h
  · exact hs
  · have hbase : P (s.setPending rest) := hcongr hs (sameResults_setPending s rest)
    have hu : P u := by
      obtain hsame | rfl | ⟨i, hi⟩ := heffect.results
      · exact hcongr hbase hsame
      · exact hcongr hreset (sameResults_setPending _ _)
      · exact hexec hbase hi
    obtain rfl | ⟨q, rfl⟩ := ht
    · exact hu
    · exact hcongr hu (sameResults_respond u q)

/-- A command that is none of the parser's leaves the result registers, the length and the buffer alone. -/
theorem exec_keeps_parserState {i : Instr} {s t : State} (hi : mayWrite i .rspStatus = false)
    (h : exec i s = .next t) :
    (∀ r : Reg, r.isResult = true → t.readReg r = s.readReg r) ∧ t.rspNregs = s.rspNregs ∧
      t.rspResult = s.rspResult ∧ t.rxLen = s.rxLen ∧ t.rxByte = s.rxByte := by
  refine ⟨fun r hr => exec_frame h r ((Bool.not_eq_true _).mp fun hmay => ?_), ?_⟩
  · obtain rfl | ⟨b, rfl⟩ | rfl := mayWrite_result hr hmay <;> exact Bool.noConfusion hi
  · cases i with
    | reqBuild =>
      cases h
      cases buildRequest s.slave s.func s.start s.count <;> exact ⟨rfl, rfl, rfl, rfl⟩
    | nop | crcInit | crcByte b =>
      cases h
      exact ⟨rfl, rfl, rfl, rfl⟩
    | rxClear | rxPush b | parse => exact Bool.noConfusion hi

theorem exec_keeps_requestResult {i : Instr} {s t : State} (hi : i ≠ .reqBuild) (h : exec i s = .next t) {r : Reg}
    (hr : r.isRequestResult = true) : t.readReg r = s.readReg r :=
  exec_frame h r ((Bool.not_eq_true _).mp fun hmay => hi (mayWrite_requestResult hr hmay))

/-! ## R40 -/

/-- With the request result unchanged, R40 (a) to (c) are left to show. -/
theorem RegisterInvariant.of_parserHalf {s t : State} (h : RegisterInvariant s)
    (hr : ∀ r : Reg, r.isRequestResult = true → t.readReg r = s.readReg r)
    (ha : t.readReg .rspStatus ≠ 1 → t.readReg .rspInfo = 0 ∧ ∀ i, t.readReg (.rspReg i) = 0)
    (hb : t.readReg .rspStatus = 0 → t.readReg .rspErrA = 0 ∧ t.readReg .rspErrB = 0)
    (hc : t.readReg .rspStatus = 1 →
      t.rspNregs.toNat ≤ 127 ∧ ∀ i : Fin Config.maxRegs, t.rspNregs.toNat ≤ i.val → t.readReg (.rspReg i) = 0) :
    RegisterInvariant t := by
  refine ⟨ha, hb, hc, ?_, ?_⟩ <;> rw [hr .reqStatus rfl, hr .reqFrame0 rfl, hr .reqFrame1 rfl]
  · exact h.frameOnlyWhenOk
  · exact h.frameIsBuilt

/-- A recorded error has a code that is neither NONE nor OK, and its data registers are 0 (R34). -/
theorem RegisterInvariant.of_error {s t : State} {status a b : Word} (h : RegisterInvariant s)
    (hr : ∀ r : Reg, r.isRequestResult = true → t.readReg r = s.readReg r)
    (hwords : ResultWords t status 0 a b []) (hnone : status ≠ 0) (hok : status ≠ 1) : RegisterInvariant t :=
  h.of_parserHalf hr (fun _ => ⟨hwords.info, hwords.regs⟩) (fun h0 => absurd (hwords.status.symm.trans h0) hnone)
    (fun h1 => absurd (hwords.status.symm.trans h1) hok)

/-- In a recorded response NREGS counts the words, and 0 stands beyond them (R33, R35). -/
theorem RegisterInvariant.of_decoded {s t : State} {info : Word} {regs : List Half} (h : RegisterInvariant s)
    (hr : ∀ r : Reg, r.isRequestResult = true → t.readReg r = s.readReg r)
    (hwords : ResultWords t 1 info 0 0 regs) (hfits : regs.length ≤ 127)
    (hnregs : t.rspNregs = BitVec.ofNat 8 regs.length) : RegisterInvariant t := by
  have hcount : t.rspNregs.toNat = regs.length := by
    rw [hnregs]
    exact Nat.mod_eq_of_lt (by omega)
  refine h.of_parserHalf hr (fun h1 => absurd hwords.status h1) (fun _ => ⟨hwords.errA, hwords.errB⟩)
    (fun _ => ⟨by omega, fun i hi => ?_⟩)
  rw [hwords.regs, List.getD_eq_default _ _ (by omega)]
  rfl

/-- A result of the pipeline in the result registers keeps R40's invariants. -/
theorem RegisterInvariant.of_holdsResult {s t : State} {p : ParseResult} (h : RegisterInvariant s)
    (hr : ∀ r : Reg, r.isRequestResult = true → t.readReg r = s.readReg r) (hresult : holdsResult p t)
    (hfits : p.FitsRegisters) (hnregs : ∀ a f regs, p = .ok a f regs → t.rspNregs = BitVec.ofNat 8 regs.length) :
    RegisterInvariant t := by
  cases p with
  | ok a f regs => exact h.of_decoded hr hresult hfits (hnregs a f regs rfl)
  | tooShort | deviceException | lengthMismatch | checksumMismatch | malformedData =>
    exact h.of_error hr hresult (by decide) (by decide)

/-- A build leaves a frame of `build_request` with OK, or zeros with RANGE_ERR (R28, R29, R122). -/
theorem RegisterInvariant.recordBuild {s : State} (h : RegisterInvariant s) (sl f : Byte) (st n : Half) :
    RegisterInvariant (s.recordBuild (buildRequest sl f st n)).markLegal := by
  cases hbuild : buildRequest sl f st n with
  | rangeError =>
    have hstatus : ¬ (2 : Word) = 1 := by decide
    exact ⟨h.dataOnlyWhenOk, h.payloadZeroWhenNone, h.registersBounded, fun _ => ⟨rfl, rfl⟩,
      fun h1 => absurd h1 hstatus⟩
  | frame bytes =>
    have hstatus : ¬ ((1 : Word) = 0 ∨ (1 : Word) = 2) := by decide
    exact ⟨h.dataOnlyWhenOk, h.payloadZeroWhenNone, h.registersBounded, fun h02 => absurd h02 hstatus,
      fun _ => ⟨sl, f, st, n, bytes, hbuild, rfl, rfl⟩⟩

theorem RegisterInvariant.exec {i : Instr} {s t : State} (hs : RegisterInvariant s) (h : exec i s = .next t) :
    RegisterInvariant t := by
  have hrequest (hi : i ≠ .reqBuild) (r : Reg) : r.isRequestResult = true → t.readReg r = s.readReg r :=
    exec_keeps_requestResult hi h
  cases i with
  | nop | crcInit | crcByte b =>
    obtain ⟨hresult, hnregs, -⟩ := exec_keeps_parserState rfl h
    exact hs.congr (fun r hr => (Bool.or_eq_true_iff.mp hr).elim (hresult r) (hrequest Instr.noConfusion r)) hnregs
  | reqBuild =>
    cases h
    exact hs.recordBuild _ _ _ _
  | rxClear | rxPush b =>
    cases h
    exact hs.of_cleared (hrequest Instr.noConfusion) (resultCleared_clearResult_markLegal _)
  | parse =>
    have hresult := holdsResult_of_exec_parse h
    have hfits := parseResponse_fitsRegisters s.rxByte s.excCrcChk s.rxLen.isLt
    cases h
    refine hs.of_holdsResult (hrequest Instr.noConfusion) hresult hfits fun a f regs hp => ?_
    rw [hp]
    rfl

theorem resultCleared_reset : resultCleared State.reset := by
  intro r hr
  rw [readReg_reset, if_neg (by rintro rfl; exact Bool.noConfusion hr)]

theorem registerInvariant_reset : RegisterInvariant State.reset where
  dataOnlyWhenOk _ := ⟨rfl, fun _ => resultCleared_reset _ rfl⟩
  payloadZeroWhenNone _ := ⟨rfl, rfl⟩
  registersBounded h1 := absurd h1 (by decide)
  frameOnlyWhenOk _ := ⟨rfl, rfl⟩
  frameIsBuilt h1 := absurd h1 (by decide)

/-- Settles O58: the invariants hold after reset, every command keeps them, and they speak of results alone. -/
theorem stepKeepsInvariant : Obligations.StepKeepsInvariant := by
  unfold Obligations.StepKeepsInvariant
  intro s t hs h
  exact step_keeps (fun hs hsame => hs.congr hsame.readReg hsame.nregs) registerInvariant_reset
    (fun hs => hs.exec) hs h

/-! ## R153 -/

theorem ResultIsOfBuffer.exec {i : Instr} {s t : State} (hs : ResultIsOfBuffer s) (h : exec i s = .next t) :
    ResultIsOfBuffer t := by
  cases i with
  | nop | crcInit | crcByte b | reqBuild =>
    obtain ⟨hresult, -, hcode, hlen, hbuf⟩ := exec_keeps_parserState rfl h
    exact hs.congr hresult hcode hlen hbuf
  | rxClear | rxPush b =>
    cases h
    exact .inl ⟨rfl, resultCleared_clearResult_markLegal _⟩
  | parse =>
    have hresult := holdsResult_of_exec_parse h
    cases h
    refine .inr ⟨s.excCrcChk, ?_⟩
    simpa using hresult

theorem resultIsOfBuffer_reset : ResultIsOfBuffer State.reset := .inl ⟨rfl, resultCleared_reset⟩

/-- Settles O59: PARSE records the outcome for the buffer as it stands, a command that changes the buffer clears the result,
and the invariant speaks of results, length and buffer alone. -/
theorem stepKeepsResultOfBuffer : Obligations.StepKeepsResultOfBuffer := by
  unfold Obligations.StepKeepsResultOfBuffer
  intro s t hs h
  exact step_keeps
    (fun hs hsame => hs.congr (fun r hr => hsame.readReg r (Bool.or_eq_true_iff.mpr (.inl hr))) hsame.code hsame.rxLen
      hsame.rxByte) resultIsOfBuffer_reset (fun hs => hs.exec) hs h

/-- Settles O57: after reset there is no result and no frame. -/
theorem invariantHoldsAfterReset : Obligations.InvariantHoldsAfterReset := by
  unfold Obligations.InvariantHoldsAfterReset
  exact ⟨registerInvariant_reset, resultIsOfBuffer_reset⟩

end Sys2Proof.Machine
end

section
/-!
What the block's behaviour does not depend on (spec/20_memory.md R61, spec/10_state.md R31): a relation of states that every
operation keeps is kept by every step. It is used for states that differ in the events to come and for states that differ
in the bytes of RX_BUF at or above the length.
-/

namespace Sys2Proof.Machine

/-- A relation of states that have the same registers, kept by every operation an event is made of. -/
structure KeptByOperations (R : State → State → Prop) : Prop where
  readReg {s t : State} : R s t → ∀ r, s.readReg r = t.readReg r
  reset {s t : State} : R s t → R (State.reset.setPending s.pending) (State.reset.setPending t.pending)
  respond {s t : State} (q : BusResponse) : R s t → R (s.respond q) (t.respond q)
  writeCtrl {s t : State} (v : Word) : R s t → R (s.writeCtrl v) (t.writeCtrl v)
  writeReqHdr {s t : State} (v : Word) : R s t → R (s.writeReqHdr v) (t.writeReqHdr v)
  writeReqArgs {s t : State} (v : Word) : R s t → R (s.writeReqArgs v) (t.writeReqArgs v)
  markIllegal {s t : State} : R s t → R s.markIllegal t.markIllegal
  exec {s t s' : State} (i : Instr) : R s t → exec i s = .next s' → ∃ t', exec i t = .next t' ∧ R s' t'

section

variable {R : State → State → Prop} (hR : KeptByOperations R)
include hR

theorem KeptByOperations.executeCommand {s t s' : State} (v : Word) (h : R s t)
    (hs : executeCommand v s = .next s') : ∃ t', executeCommand v t = .next t' ∧ R s' t' := by
  unfold Machine.executeCommand at hs ⊢
  cases hd : decode v with
  | command i =>
    rw [hd] at hs
    exact hR.exec i h hs
  | illegal w =>
    rw [hd] at hs
    cases hs
    exact ⟨_, rfl, hR.markIllegal h⟩

theorem KeptByOperations.busWrite {s t s' : State} {off : Offset} {size : Nat} (v : Word)
    (hl : accessLegal off size = true) (h : R s t) (hs : busWrite s off size v = .next s') :
    ∃ t', busWrite t off size v = .next t' ∧ R s' t' := by
  revert hs
  rw [Machine.busWrite, Machine.busWrite, if_pos hl, if_pos hl]
  split <;> intro hs
  case h_2 => exact hR.executeCommand v h hs
  all_goals obtain rfl := Host.Outcome.next.inj hs
  · exact ⟨_, rfl, hR.writeCtrl v h⟩
  · exact ⟨_, rfl, hR.writeReqHdr v h⟩
  · exact ⟨_, rfl, hR.writeReqArgs v h⟩
  · exact ⟨_, rfl, h⟩

theorem KeptByOperations.performEvent {s t s' : State} (e : HostEvent) (h : R s t)
    (hs : performEvent e s = .next s') : ∃ t', performEvent e t = .next t' ∧ R s' t' := by
  cases e with
  | reset running =>
    cases hs
    exact ⟨_, rfl, hR.reset h⟩
  | access a =>
    change performAccess a s = .next s' at hs
    change ∃ t', performAccess a t = .next t' ∧ R s' t'
    cases a with
    | read off size =>
      cases hl : accessLegal off size with
      | true =>
        have hread := (busRead_congr (hR.readReg h) off size).symm.trans (busRead_legal hl)
        rw [performAccess_read_ok (busRead_legal hl)] at hs
        cases hs
        exact ⟨_, performAccess_read_ok hread, hR.respond _ h⟩
      | false =>
        rw [performAccess_busError (v := 0) s hl (.inl rfl)] at hs
        cases hs
        exact ⟨_, performAccess_busError (v := 0) t hl (.inl rfl), hR.respond _ h⟩
    | write off size v =>
      cases hl : accessLegal off size with
      | true =>
        obtain ⟨u, hu⟩ := exists_busWrite_eq_next s v hl
        obtain ⟨u', hu', huu⟩ := hR.busWrite v hl h hu
        rw [performAccess_write_next hu] at hs
        cases hs
        exact ⟨_, performAccess_write_next hu', hR.respond _ huu⟩
      | false =>
        rw [performAccess_busError s hl (.inr rfl)] at hs
        cases hs
        exact ⟨_, performAccess_busError t hl (.inr rfl), hR.respond _ h⟩

/-- States with the same next event, related once it is taken off, step to related states. -/
theorem KeptByOperations.step {s t s' : State} {e : HostEvent} {rest rest' : List HostEvent}
    (hps : s.pending = e :: rest) (hpt : t.pending = e :: rest')
    (h : R (s.setPending rest) (t.setPending rest')) (hs : step s = .next s') :
    ∃ t', step t = .next t' ∧ R s' t' := by
  rw [step_of_event hps] at hs
  rw [step_of_event hpt]
  exact hR.performEvent e h hs

end

/-! ## Events that come later -/

/-- The second state is the first with more events to come after those that wait. -/
def AddsEvents (fs : List HostEvent) (s t : State) : Prop := t = s.setPending (s.pending ++ fs)

theorem recordBuild_setPending (s : State) (es : List HostEvent) (b : BuildResult) :
    (s.setPending es).recordBuild b = (s.recordBuild b).setPending es := by
  cases b <;> rfl

theorem recordResult_setPending (s : State) (es : List HostEvent) (p : ParseResult) :
    (s.setPending es).recordResult p = (s.recordResult p).setPending es := by
  cases p <;> rfl

/-- A command neither looks at the waiting events nor changes them. -/
theorem exec_setPending {i : Instr} {s t : State} (h : exec i s = .next t) (es : List HostEvent) :
    exec i (s.setPending es) = .next (t.setPending es) := by
  cases i with
  | reqBuild =>
    cases h
    exact congrArg (fun u : State => Host.Outcome.next u.markLegal) (recordBuild_setPending s es _)
  | parse =>
    cases h
    exact congrArg (fun u : State => Host.Outcome.next u.markLegal) (recordResult_setPending s.clearResult es _)
  | nop | crcInit | crcByte b | rxClear | rxPush b =>
    cases h
    rfl

theorem addsEvents_keptByOperations (fs : List HostEvent) : KeptByOperations (AddsEvents fs) where
  readReg h r := by rw [h, State.readReg_setPending]
  reset h := by
    rw [h]
    rfl
  respond q h := by
    rw [h]
    rfl
  writeCtrl v h := by
    rw [h]
    rfl
  writeReqHdr v h := by
    rw [h]
    rfl
  writeReqArgs v h := by
    rw [h]
    rfl
  markIllegal h := by
    rw [h]
    rfl
  exec i h hs := by
    refine ⟨_, h ▸ exec_setPending hs _, ?_⟩
    rw [AddsEvents, exec_pending hs]

/-- As many steps as there are waiting events serve those, and the added events still wait. -/
theorem runSteps_addsEvents {n : Nat} {fs : List HostEvent} {s s' t : State} (hn : s.pending.length = n)
    (h : AddsEvents fs s s') (ht : runSteps n s = .next t) : ∃ t', runSteps n s' = .next t' ∧ AddsEvents fs t t' := by
  induction n generalizing s s' with
  | zero =>
    cases ht
    exact ⟨s', rfl, h⟩
  | succ n ih =>
    obtain ⟨e, rest, hp⟩ := List.exists_cons_of_length_eq_add_one hn
    have hp' : s'.pending = e :: (rest ++ fs) := by rw [h, State.setPending_pending, hp, List.cons_append]
    have hbase : AddsEvents fs (s.setPending rest) (s'.setPending (rest ++ fs)) := by
      rw [h]
      rfl
    obtain ⟨u, hu⟩ := exists_step_eq_next s
    obtain ⟨u', hu', huu⟩ := (addsEvents_keptByOperations fs).step hp hp' hbase hu
    have hlen : u.pending.length = n := by rw [step_pending hu, List.length_tail, hn, Nat.add_sub_cancel]
    rw [runSteps_of_step n hu] at ht
    rw [runSteps_of_step n hu']
    exact ih hlen huu ht

/-- Settles O20: having more events to come is kept by the operations of every event. -/
theorem laterEventsChangeNothingEarlier : Obligations.LaterEventsChangeNothingEarlier := by
  unfold Obligations.LaterEventsChangeNothingEarlier
  intro s t es fs ht
  obtain ⟨t', ht', rfl⟩ := runSteps_addsEvents (s := s.setPending es) (fs := fs) rfl rfl ht
  exact ht'

/-! ## Bytes at or above the length -/

/-- An update that neither looks at RX_BUF nor changes it or RX_LEN keeps two states alike. -/
theorem alikeBelowLength.map {f : State → State} {s t : State} (h : alikeBelowLength s t)
    (hbuf : ∀ (u : State) (b : Vector Byte Config.rxCap), f { u with rxBuf := b } = { f u with rxBuf := b })
    (hkeep : ∀ u, (f u).rxLen = u.rxLen ∧ (f u).rxBuf = u.rxBuf) : alikeBelowLength (f s) (f t) := by
  obtain ⟨ht, hbytes⟩ := h
  have hbyte (u : State) (i : Nat) : (f u).rxByte i = u.rxByte i := by rw [State.rxByte, State.rxByte, (hkeep u).2]
  refine ⟨by rw [(hkeep t).2, ← hbuf, ht], fun i hi => ?_⟩
  rw [(hkeep s).1] at hi
  rw [hbyte, hbyte, hbytes i hi]

theorem alikeBelowLength.pending {s t : State} (h : alikeBelowLength s t) : s.pending = t.pending := by
  rw [← h.1]

theorem alikeBelowLength.readReg {s t : State} (h : alikeBelowLength s t) (r : Reg) : s.readReg r = t.readReg r := by
  rw [← h.1]
  cases r <;> rfl

/-- The pipeline reads no byte at or above the length (R156). -/
theorem alikeBelowLength.parseResponse {s t : State} (h : alikeBelowLength s t) :
    parseResponse t.rxLen.toNat t.rxByte t.excCrcChk = parseResponse s.rxLen.toNat s.rxByte s.excCrcChk := by
  have hlen : t.rxLen = s.rxLen := by rw [← h.1]
  have hstrict : t.excCrcChk = s.excCrcChk := by rw [← h.1]
  rw [hlen, hstrict]
  exact (parseReadsOnlyStoredBytes _ _ _ _ h.2).symm

/-- The byte that RX_PUSH stores at index RX_LEN is the only one that comes to lie below the length. -/
theorem alikeBelowLength.rxPush {s t : State} (h : alikeBelowLength s t) (b : Byte) :
    alikeBelowLength ((s.storeRx s.rxLen.toNat b).setRxLen (satSucc s.rxLen)).clearResult.markLegal
      ((t.storeRx t.rxLen.toNat b).setRxLen (satSucc t.rxLen)).clearResult.markLegal := by
  obtain ⟨ht, hbytes⟩ := h
  have hlen : t.rxLen = s.rxLen := by rw [← ht]
  have hcount : (satSucc s.rxLen).toNat ≤ s.rxLen.toNat + 1 := by
    obtain hlt | hge : s.rxLen.toNat < 0xFFFF ∨ 0xFFFF ≤ s.rxLen.toNat := lt_or_ge _ _
    · rw [satSucc_toNat hlt]
    · rw [satSucc, if_neg hge.not_gt]
      omega
  refine ⟨by rw [← ht]; rfl, fun i hi => ?_⟩
  obtain ⟨hlt, hcap⟩ : i < (satSucc s.rxLen).toNat ∧ i < Config.rxCap := lt_min_iff.mp hi
  change (s.storeRx s.rxLen.toNat b).rxByte i = (t.storeRx t.rxLen.toNat b).rxByte i
  rw [hlen]
  by_cases hindex : i = s.rxLen.toNat
  · subst hindex
    rw [State.rxByte_storeRx_same s b hcap, State.rxByte_storeRx_same t b hcap]
  · rw [State.rxByte_storeRx_other s b hindex, State.rxByte_storeRx_other t b hindex,
      hbytes i (lt_min (by omega) hcap)]

theorem alikeBelowLength.exec {s t s' : State} (i : Instr) (h : alikeBelowLength s t) (hs : exec i s = .next s') :
    ∃ t', exec i t = .next t' ∧ alikeBelowLength s' t' := by
  cases i with
  | nop =>
    cases hs
    exact ⟨_, rfl, h.map (fun _ _ => rfl) (fun _ => ⟨rfl, rfl⟩)⟩
  | crcInit =>
    cases hs
    exact ⟨_, rfl, h.map (f := fun u => (u.setCrc crcSeed).markLegal) (fun _ _ => rfl) (fun _ => ⟨rfl, rfl⟩)⟩
  | crcByte b =>
    cases hs
    exact ⟨_, rfl, h.map (f := fun u => (u.setCrc (Machine.crcByte u.crc b)).markLegal) (fun _ _ => rfl)
      (fun _ => ⟨rfl, rfl⟩)⟩
  | reqBuild =>
    cases hs
    refine ⟨_, rfl, h.map (f := fun u => (u.recordBuild (buildRequest u.slave u.func u.start u.count)).markLegal)
      (fun u b => ?_) (fun u => ?_)⟩
    · cases buildRequest u.slave u.func u.start u.count <;> rfl
    · cases buildRequest u.slave u.func u.start u.count <;> exact ⟨rfl, rfl⟩
  | rxClear =>
    cases hs
    exact ⟨_, rfl, by rw [← h.1]; rfl, fun i hi => absurd hi (Nat.not_lt_zero i)⟩
  | rxPush b =>
    cases hs
    exact ⟨_, rfl, h.rxPush b⟩
  | parse =>
    rw [exec_parse] at hs ⊢
    rw [h.parseResponse]
    cases hs
    refine ⟨_, rfl, h.map (f := fun u =>
      (u.clearResult.recordResult (Machine.parseResponse s.rxLen.toNat s.rxByte s.excCrcChk)).markLegal)
      (fun u b => ?_) (fun u => ?_)⟩
    · cases Machine.parseResponse s.rxLen.toNat s.rxByte s.excCrcChk <;> rfl
    · cases Machine.parseResponse s.rxLen.toNat s.rxByte s.excCrcChk <;> exact ⟨rfl, rfl⟩

theorem alikeBelowLength_keptByOperations : KeptByOperations alikeBelowLength where
  readReg h := h.readReg
  reset h := by
    rw [h.pending]
    exact ⟨rfl, fun _ _ => rfl⟩
  respond q h := h.map (f := State.respond q) (fun _ _ => rfl) (fun _ => ⟨rfl, rfl⟩)
  writeCtrl v h := h.map (f := State.writeCtrl v) (fun _ _ => rfl) (fun _ => ⟨rfl, rfl⟩)
  writeReqHdr v h := h.map (f := State.writeReqHdr v) (fun _ _ => rfl) (fun _ => ⟨rfl, rfl⟩)
  writeReqArgs v h := h.map (f := State.writeReqArgs v) (fun _ _ => rfl) (fun _ => ⟨rfl, rfl⟩)
  markIllegal h := h.map (f := State.markIllegal) (fun _ _ => rfl) (fun _ => ⟨rfl, rfl⟩)
  exec i h hs := h.exec i hs

/-- Settles O52: being alike below the length is kept by the operations of every event, and such states have the same
registers and the same answer. -/
theorem staleBytesAreUnobservable : Obligations.StaleBytesAreUnobservable := by
  unfold Obligations.StaleBytesAreUnobservable
  intro s t s' h hs
  obtain ⟨t', ht', hst⟩ : ∃ t', step t = .next t' ∧ alikeBelowLength s' t' := by
    cases hp : s.pending with
    | nil =>
      obtain rfl : s = s' := Host.Outcome.next.inj ((step_of_no_event hp).symm.trans hs)
      exact ⟨t, step_of_no_event (h.pending ▸ hp), h⟩
    | cons e rest =>
      have hbase := h.map (f := State.setPending rest) (fun _ _ => rfl) (fun _ => ⟨rfl, rfl⟩)
      exact alikeBelowLength_keptByOperations.step hp (h.pending ▸ hp) hbase hs
  exact ⟨t', ht', hst, by rw [← hst.1], hst.readReg⟩

end Sys2Proof.Machine
end
